-- ==== Sys2Proof/Config.lean ====
section
/-! DEFINITION. What the manual fixes for every device (counts of the time base) and the FREE VALUES: what it leaves
to either order. A free value has no body, so no proof can lean on what it is. -/

namespace Sys2Proof.Config

/-- Speed-reference counts (20 CLKIN cycles, 5 µs) in one eighth: 500 000 / 20 (R150). -/
def countsPerEighth : Nat := 25000

/-- CLKIN cycles in one speed-reference count (R150). -/
def clkPerCount : Nat := 20

/-- tNVW, the store write time, in CLKIN cycles (R167). -/
def storeWriteCycles : Nat := 48000

/-- The counts of one speed-reference period (R98). -/
def periodCounts : Nat := 200

/-- Where a window count saturates, and what band high is reduced to (R94, R95). -/
def countMax : Nat := 4095

/-- How often the reports within one event are taken up before the event ends. Each round that makes new reports
ends a restore or moves the proof test on, which can happen at most 131 times in one event; assumption 4. -/
def settleRounds : Nat := 200

/-- FREE VALUE: the `n`-th choice of an order among several things that the manual leaves 'in no stated order' or
says 'either may be taken first' (R24, R150): the rank that choice gives to the `i`-th of them. Assumption 2. -/
opaque freeRank (n i : Nat) : Nat

/-- FREE VALUE: the `n`-th choice between two outcomes: whether a field whose write a device reset ends holds its
new value (R168). Assumption 3. -/
opaque freeBit (n : Nat) : Bool

end Sys2Proof.Config
end

