-- ==== Sys2Proof/Word.lean ====
section
/-! DEFINITION. The machine's plainest words: bytes of a port, numbers of points and zones, levels of a line. -/

namespace Sys2Proof

/-- A byte of a port: one slot of an order or of a reply (Table 8-1). -/
abbrev Byte := BitVec 8

/-- A point, one of the 64 equipment channels, 0 to 63 (00_scope, conventions). -/
abbrev Point := Fin 64

/-- A smoke zone, 0 to 31 (00_scope, conventions). -/
abbrev Zone := Fin 32

/-- Every point, in ascending number. -/
def allPoints : List Point := List.finRange 64

/-- Every zone, in ascending number. -/
def allZones : List Zone := List.finRange 32

/-- The level of an input line. A closed contact is a low level and an open contact a high level, so `low` is
the raw or filtered level CLOSED and `high` is OPEN (R1, R52, R89, R114). -/
inductive Level where
  | low
  | high
deriving DecidableEq, Repr

/-- The byte that holds a number of a result (Table 8-1). -/
def byte (n : Nat) : Byte := BitVec.ofNat 8 n

end Sys2Proof
end

