-- ==== Sys2Proof/Syntax.lean ====
section
/-! DEFINITION. The commands of the block: one constructor per row of spec/opcode_table.json, in the table's order. -/

namespace Sys2Proof

/-- The three panel ports: A (fire alarm panel), F (firefighters' panel), B (building station) (00_scope). -/
inductive PortId where
  | a
  | f
  | b
deriving DecidableEq, Repr

/-- A point's two feedback inputs (Table 0-2). On a damper they are the open limit and the closed limit (R52). -/
inductive LimitInput where
  | fba
  | fbb
deriving DecidableEq, Repr

/-- A four-byte order as a port holds it: the order code and three operand bytes (R152, Table 8-1). -/
structure Order where
  code : Byte
  b1   : Byte
  b2   : Byte
  b3   : Byte
deriving DecidableEq, Repr

/-- The orders of Table 8-2. -/
inductive OrderKind where
  | qsys | qalm | qzon | qpnt | nxch
  | zalm | arst | ziso | zrin
  | ovrd | oval | fzon | eqrs
  | ndem | ptst | pthl | ptrd | cmen | cmlv
  | wpcf | wzcf | wscn | wdcf
  | rpcf | rzcf | rscn | rdcf
deriving DecidableEq, Repr

/-- A command: an event at one of the block's lines or timers, or an order that a panel writes at its port. The
level of a raw change is the line's new level. An order's constructor carries the port and the three operand bytes,
since every order has them (R152) and a reply echoes them whether or not the order uses them (R153). -/
inductive Instr where
  | zoneRawLevelChange (z : Zone) (level : Level)
  | zoneFilterTimerRunsOut (z : Zone)
  | limitRawLevelChange (p : Point) (input : LimitInput) (level : Level)
  | limitFilterTimerRunsOut (p : Point) (input : LimitInput)
  | strokeTimerRunsOut (p : Point)
  | fbaRisingEdge (p : Point)
  | gateTimerRunsOut (p : Point)
  | proofLimitTimerRunsOut (p : Point)
  | runDownTimerRunsOut (p : Point)
  | periodBoundary (p : Point)
  | fbbRawLevelChange (p : Point) (level : Level)
  | fbbFilterTimerRunsOut (p : Point)
  | spacingTimerRunsOut
  | supfailRawLevelChange (level : Level)
  | supfailFilterTimerRunsOut
  | settleTimerRunsOut
  | storeWriteCompletes
  | joiningReport
  /-- The end of a write strobe: the level of SEL at that end (`sel` true: active) and the byte captured (R139). -/
  | wrStrobeEnd (port : PortId) (sel : Bool) (data : Byte)
  | selInactive (port : PortId)
  /-- A read strobe: the level of SEL at its start (R143). -/
  | rdStrobe (port : PortId) (sel : Bool)
  | deviceReset
  | unknownOrderCode (port : PortId) (code b1 b2 b3 : Byte)
  | qsys (port : PortId) (b1 b2 b3 : Byte)
  | qalm (port : PortId) (b1 b2 b3 : Byte)
  | qzon (port : PortId) (b1 b2 b3 : Byte)
  | qpnt (port : PortId) (b1 b2 b3 : Byte)
  | nxch (port : PortId) (b1 b2 b3 : Byte)
  | zalm (port : PortId) (b1 b2 b3 : Byte)
  | arst (port : PortId) (b1 b2 b3 : Byte)
  | ziso (port : PortId) (b1 b2 b3 : Byte)
  | zrin (port : PortId) (b1 b2 b3 : Byte)
  | ovrd (port : PortId) (b1 b2 b3 : Byte)
  | oval (port : PortId) (b1 b2 b3 : Byte)
  | fzon (port : PortId) (b1 b2 b3 : Byte)
  | eqrs (port : PortId) (b1 b2 b3 : Byte)
  | ndem (port : PortId) (b1 b2 b3 : Byte)
  | ptst (port : PortId) (b1 b2 b3 : Byte)
  | pthl (port : PortId) (b1 b2 b3 : Byte)
  | ptrd (port : PortId) (b1 b2 b3 : Byte)
  | cmen (port : PortId) (b1 b2 b3 : Byte)
  | cmlv (port : PortId) (b1 b2 b3 : Byte)
  | wpcf (port : PortId) (b1 b2 b3 : Byte)
  | wzcf (port : PortId) (b1 b2 b3 : Byte)
  | wscn (port : PortId) (b1 b2 b3 : Byte)
  | wdcf (port : PortId) (b1 b2 b3 : Byte)
  | rpcf (port : PortId) (b1 b2 b3 : Byte)
  | rzcf (port : PortId) (b1 b2 b3 : Byte)
  | rscn (port : PortId) (b1 b2 b3 : Byte)
  | rdcf (port : PortId) (b1 b2 b3 : Byte)
  | deviceResetHeld
deriving DecidableEq, Repr

end Sys2Proof
end

