-- ==== Sys2Proof/Machine/State.lean ====
section
/-! DEFINITION. The machine's state as plain data: every record the manual gives the 13 blocks (Table 0-1), the
configuration store, the lines, and the queue of waiting commands. No meaning stands here. -/

namespace Sys2Proof.Machine

/-- Why the machine stops with a fault. No command of this block stops it: the manual gives every event and every
order an effect, a refusal in the REPLY being such an effect. The type therefore has no constructor. -/
inductive Fault where
deriving DecidableEq, Repr

/-- Why a command has no meaning. -/
inductive Refusal where
  /-- Raised by exec's arm of a command that is not modelled; no arm raises it. Safe: the machine stops. -/
  | notModelled (mnemonic : String)
deriving DecidableEq, Repr

/-! ## Timers, filters and lines -/

/-- A timer: idle, or running with the eighths still to elapse and the speed-reference counts that have already
passed of the eighth in progress (R150). A load of `n` eighths is `running n 0`. -/
inductive Timer where
  | idle
  | running (eighths sub : Nat)
deriving DecidableEq, Repr

/-- A line filter (R2, R53, R89, R114): the filtered level and the filter timer. It is SETTLED while the timer is
idle and PENDING while it runs (Table 1-3). The raw level is the line's own and is held with the line. -/
structure Filter where
  filtered : Level
  timer    : Timer
deriving DecidableEq, Repr

/-! ## The configuration store (chapter 9) -/

/-- Point kind, field 0 of Table 9-1. -/
inductive Kind where
  | unused
  | fan
  | damper
deriving DecidableEq, Repr

/-- Unassigned action, field 1 of Table 9-1 (R27). -/
inductive Unassigned where
  | normal
  | active
  | rest
deriving DecidableEq, Repr

/-- Damper drive sense, field 2 of Table 9-1 (R51). -/
inductive DriveSense where
  | energiseOpen
  | energiseClose
deriving DecidableEq, Repr

/-- Damper feedback arrangement, field 3 of Table 9-1 (R52). -/
inductive Feedback where
  | twoLimit
  | openLimit
  | timed
deriving DecidableEq, Repr

/-- Fan speed control, field 4 of Table 9-1. -/
inductive SpeedControl where
  | variable
  | fixed
deriving DecidableEq, Repr

/-- Fan drive-fault contact, field 5 of Table 9-1 (R89). -/
inductive DriveContact where
  | none
  | opensOnFault
  | closesOnFault
deriving DecidableEq, Repr

/-- An action asked of a point: OPEN, CLOSE, STOP, or RUN at a whole percentage (00_scope, terms; R22). -/
inductive Action where
  | toOpen
  | toClose
  | stop
  | run (speed : Nat)
deriving DecidableEq, Repr

/-- A point record of the store (Table 9-1, Table 0-3). Times are in the units of the table. -/
structure PointCfg where
  kind         : Kind
  unassigned   : Unassigned
  driveSense   : DriveSense
  feedback     : Feedback
  speedControl : SpeedControl
  driveContact : DriveContact
  path0        : Option Point
  path1        : Option Point
  path2        : Option Point
  path3        : Option Point
  tSTK         : Nat
  tRD          : Nat
  tPL          : Nat
  nGATE        : Nat
  nK           : Nat
  nTOL         : Nat
  nRATE        : Nat
  nPPR         : Nat
  nMIN         : Nat
  nOVS         : Nat
  nUNIT        : Nat
  nSTG         : Nat
deriving DecidableEq, Repr

/-- Zone mode, field 0 of a zone record (Table 9-2). -/
inductive ZoneMode where
  | latch
  | follow
deriving DecidableEq, Repr

/-- Zone contact sense, field 1 of a zone record (Table 9-2, Table 1-2). -/
inductive Contact where
  | normallyOpen
  | normallyClosed
deriving DecidableEq, Repr

/-- A zone record of the store (Table 1-1, Table 9-2). -/
structure ZoneCfg where
  mode    : ZoneMode
  contact : Contact
  tZF     : Nat
deriving DecidableEq, Repr

/-- The four device settings (Table 9-2). -/
structure DeviceCfg where
  nALW : Nat
  nSPC : Nat
  tSET : Nat
  tFBF : Nat
deriving DecidableEq, Repr

/-- The configuration store (R166). A scenario entry is NONE (`none`) or an action (R25); the row is the zone's. -/
structure Store where
  points   : Vector PointCfg 64
  zones    : Vector ZoneCfg 32
  scenario : Vector (Vector (Option Action) 64) 32
  device   : DeviceCfg
deriving DecidableEq, Repr

/-- The one field or entry a store write names, with its new value as the order carried it (R167). -/
inductive WriteTarget where
  | point (p : Point) (field value : Nat)
  | zone (z : Zone) (field value : Nat)
  | scenario (z : Zone) (p : Point) (entry : Option Action)
  | device (field value : Nat)
deriving DecidableEq, Repr

/-- A store write in progress: its target and the CLKIN cycles left on the store write timer (R167). -/
structure StoreWrite where
  target : WriteTarget
  cycles : Nat
deriving DecidableEq, Repr

/-! ## Zone input unit and alarm list (chapter 1) -/

/-- One zone of the ZIU (R1). -/
structure ZoneLine where
  raw      : Level
  filter   : Filter
  isolated : Bool
deriving DecidableEq, Repr

/-- How a zone entered the alarm list (R10). -/
inductive Origin where
  | line
  | port
  | firefighter
deriving DecidableEq, Repr

/-- An entry of the alarm list (R10). -/
structure AlarmEntry where
  zone    : Zone
  origin  : Origin
  latched : Bool
deriving DecidableEq, Repr

/-! ## Plan resolver (chapter 2) -/

/-- Device mode (R40). -/
inductive Mode where
  | normal
  | fire
  | restore
  | test
  | commission
deriving DecidableEq, Repr

/-- Override entry (R29). -/
inductive Override where
  | auto
  | on
  | off
deriving DecidableEq, Repr

/-- Source of a demand (R22). -/
inductive Source where
  | override
  | fire
  | unassigned
  | test
  | normal
  | restore
deriving DecidableEq, Repr

/-- A resolved demand (R22): action with speed, source, and the fire zone when the source is FIRE. -/
structure Demand where
  action   : Action
  source   : Source
  fireZone : Option Zone
deriving DecidableEq, Repr

/-! ## Damper sequencer (chapter 3) -/

/-- Damper position state (Table 3-2). -/
inductive DamperPos where
  | unproven
  | opening
  | opened
  | closing
  | closed
  | waitFan
deriving DecidableEq, Repr

/-- The end a damper is driven to: the OPEN or the CLOSE of its held demand (R50, R56). -/
inductive DamperEnd where
  | openEnd
  | closedEnd
deriving DecidableEq, Repr

/-- Fault field of a damper (R65). -/
inductive DamperFault where
  | none
  | stroke
  | conflict
  | drift
deriving DecidableEq, Repr

/-- A damper's held demand: its action and source (R50). -/
structure DamperHeld where
  target : DamperEnd
  source : Source
deriving DecidableEq, Repr

/-- A damper record (Table 3-1). The raw levels of its limits are the levels of the lines (`Channel.fba`,
`Channel.fbb`). -/
structure Damper where
  pos     : DamperPos
  held    : Option DamperHeld
  fault   : DamperFault
  stroke  : Timer
  timed   : Bool
  fbaFilt : Filter
  fbbFilt : Filter
deriving DecidableEq, Repr

/-! ## Fan sequencer, run-proof counter and speed reference generator (chapter 4) -/

/-- Fan state (Table 4-2). -/
inductive FanState where
  | idle
  | queued
  | starting
  | running
  | lost
  | runDown
  | fault
deriving DecidableEq, Repr

/-- Fault kind of a fan (Table 4-1). -/
inductive FanFault where
  | none
  | failStart
  | drive
deriving DecidableEq, Repr

/-- Wait reason of a queued fan (Table 5-1); its absence is `none` of the Option that holds it. -/
inductive WaitReason where
  | path
  | drive
  | allowance
  | spacing
  | supply
  | order
deriving DecidableEq, Repr

/-- What a fan's held demand asks: STOP, or RUN at a speed (R76). -/
inductive FanWant where
  | stop
  | run (speed : Nat)
deriving DecidableEq, Repr

/-- A fan's held demand (R76). -/
structure FanHeld where
  want   : FanWant
  source : Source
deriving DecidableEq, Repr

/-- The run-proof counter of one fan (Table 4-5). -/
structure RunProof where
  gate      : Timer
  count     : Nat
  expected  : Nat
  low       : Nat
  high      : Nat
  inRun     : Nat
  outRun    : Nat
  lastCount : Nat
  lastE     : Nat
deriving DecidableEq, Repr

/-- The speed reference generator of one fan (R98): applied speed, pending speed, period phase. While no period runs
the phase stands at 0, which the manual leaves open and nothing shows (assumption 30). -/
structure SpeedRef where
  applied : Nat
  pending : Option Nat
  phase   : Nat
deriving DecidableEq, Repr

/-- A fan record (Table 4-1) with the counters and the speed reference of the same fan. The raw level of FBB is the
level of the line (`Channel.fbb`). -/
structure Fan where
  state      : FanState
  fault      : FanFault
  held       : Option FanHeld
  wait       : Option WaitReason
  runDown    : Timer
  proofLimit : Timer
  driveAlarm : Bool
  fbbFilt    : Filter
  proof      : RunProof
  speed      : SpeedRef
deriving DecidableEq, Repr

/-! ## One point channel -/

/-- The sequencer record of a point, by its kind (R50, R74): an UNUSED point has none. -/
inductive Equipment where
  | unused
  | damper (d : Damper)
  | fan (f : Fan)
deriving DecidableEq, Repr

/-- One point: its lines FBA and FBB as they stand, its CMD output, its sequencer record and the resolver's entries
for it (Table 2-1). Its SPD output is a function of these (`Channel.spdHigh`). -/
structure Channel where
  fba        : Level
  fbb        : Level
  cmd        : Bool
  unit       : Equipment
  override   : Override
  normal     : Action
  lastFire   : Option Action
  testDemand : Option Action
  resolved   : Option Demand
deriving DecidableEq, Repr

/-! ## Start scheduler, supply monitor, proof test unit (chapters 5 and 6) -/

/-- Supply state (Table 5-3). -/
inductive SupplyState where
  | good
  | failed
  | settling
deriving DecidableEq, Repr

/-- State of the test record (Table 6-1). -/
inductive TestState where
  | idle
  | running
  | done
  | aborted
deriving DecidableEq, Repr

/-- The step of the test record (Table 6-1); none is `none` of the Option that holds it. -/
inductive TestStep where
  | damperOut
  | damperBack
  | fanStart
  | fanStop
deriving DecidableEq, Repr

/-- Outcome of a point's step (Table 6-2). -/
inductive TestOutcome where
  | pass
  | skipOverride
  | skipFault
  | failStroke
  | failConflict
  | failDrift
  | failPath
  | failDrive
  | failStart
  | aborted
deriving DecidableEq, Repr

/-- An entry of the result list (R121). -/
structure TestEntry where
  point   : Point
  outcome : TestOutcome
deriving DecidableEq, Repr

/-- The test record (Table 6-1). -/
structure TestRecord where
  state   : TestState
  first   : Nat
  count   : Nat
  current : Option Point
  step    : Option TestStep
  home    : Option Action
  results : List TestEntry
  failed  : Nat
deriving DecidableEq, Repr

/-- The scheduler's report of the evaluation of a joining event to the test unit (R124, R129): the fan, and the wait
reason recorded, or none when the fan was started. It waits here until JOINING_REPORT takes it. -/
structure JoinReport where
  point  : Point
  reason : Option WaitReason
deriving DecidableEq, Repr

/-- The supply monitor (R114, R115): the SUPFAIL line's raw level and filter, the supply state, the settle timer. -/
structure Supply where
  raw    : Level
  filter : Filter
  state  : SupplyState
  settle : Timer
deriving DecidableEq, Repr

/-- The start scheduler (R103, R109, R111, R112). -/
structure Scheduler where
  queue        : List Point
  inUse        : Nat
  limit        : Nat
  pendingLimit : Option Nat
  spacing      : Timer
deriving DecidableEq, Repr

/-- What the events of the plant change: the 64 channels, the mode, the scheduler, the supply monitor and the test
record. `draws` is the MODEL's own: how many free choices have been made (assumptions 2 and 3). -/
structure Plant where
  chans       : Vector Channel 64
  mode        : Mode
  sched       : Scheduler
  supply      : Supply
  test        : TestRecord
  joinReports : List JoinReport
  draws       : Nat
deriving DecidableEq, Repr

/-! ## Panel ports (chapter 7) -/

/-- A port record (Table 7-1). A slot is EMPTY (`none`) or FULL with a byte. A change set is held as membership of
each number, so it holds no member twice. -/
structure PortRec where
  inSlots    : Vector (Option Byte) 4
  wptr       : Fin 4
  inProgress : Option Order
  outSlots   : Vector (Option Byte) 4
  rptr       : Fin 4
  lastDriven : Byte
  overrun    : Bool
  underrun   : Bool
  short      : Bool
  reset      : Bool
  points     : Vector Bool 64
  zones      : Vector Bool 32
deriving DecidableEq, Repr

/-- The three ports. -/
structure Ports where
  a : PortRec
  f : PortRec
  b : PortRec
deriving DecidableEq, Repr

/-! ## The machine -/

/-- The whole machine. `held` is true while device reset is held (R151). `clkin` is false while CLKIN has stopped
(R150): no command moves it, as none moves a line that the table has no row for (assumption 29). `periodEnds` is the
MODEL's own: the points whose speed-reference period came to its end in the last count, whose boundaries may still have
to be taken (assumption 1). `pending` is the queue of waiting commands, first in, first out. -/
structure State where
  held       : Bool
  clkin      : Bool
  periodEnds : List Point
  zones      : Vector ZoneLine 32
  alarms     : List AlarmEntry
  store      : Store
  write      : Option StoreWrite
  plant      : Plant
  ports      : Ports
  pending    : List Instr
deriving DecidableEq, Repr

/-! ## An event in progress: nothing of this is held between events -/

/-- What an event of the plant reads and does not change: the store and the alarm list. -/
structure Env where
  store  : Store
  alarms : List AlarmEntry
deriving DecidableEq, Repr

/-- A report made within an event and taken up within the same event (R44, R124): a damper's position state, when it
changed, and its fault, when it changed from none; a fan's new state and fault kind; a point's resolved source
becoming OVERRIDE; a check for restore completion. -/
inductive Report where
  | damper (p : Point) (pos : Option DamperPos) (fault : DamperFault)
  | fan (p : Point) (state : FanState) (fault : FanFault)
  | override (p : Point)
  | restoreCheck
deriving DecidableEq, Repr

/-- An event in progress: the plant so far, the points marked (R145), the reports not yet taken up, whether the
event has brought a cause of evaluation (R104), and the fans under test that joined the queue in it (R129). -/
structure Ev where
  plant   : Plant
  marks   : List Point
  reports : List Report
  evalDue : Bool
  joined  : List Point
deriving DecidableEq, Repr

/-! ## The machine after device reset -/

/-- A point record at its delivery values (Table 9-1). -/
def PointCfg.delivery : PointCfg where
  kind := .unused
  unassigned := .rest
  driveSense := .energiseOpen
  feedback := .twoLimit
  speedControl := .variable
  driveContact := .none
  path0 := none
  path1 := none
  path2 := none
  path3 := none
  tSTK := 30
  tRD := 20
  tPL := 30
  nGATE := 16
  nK := 2
  nTOL := 20
  nRATE := 72
  nPPR := 1
  nMIN := 20
  nOVS := 100
  nUNIT := 10
  nSTG := 0

/-- A zone record at its delivery values (Table 9-2). -/
def ZoneCfg.delivery : ZoneCfg := { mode := .latch, contact := .normallyOpen, tZF := 2 }

/-- The device settings at their delivery values (Table 9-2). -/
def DeviceCfg.delivery : DeviceCfg := { nALW := 20, nSPC := 8, tSET := 10, tFBF := 2 }

/-- The store on delivery (R166): every scenario entry is NONE. -/
def Store.delivery : Store where
  points := Vector.replicate 64 .delivery
  zones := Vector.replicate 32 .delivery
  scenario := Vector.replicate 32 (Vector.replicate 64 none)
  device := .delivery

/-- A filter settled at a level. -/
def Filter.settled (l : Level) : Filter := { filtered := l, timer := .idle }

/-- An UNUSED point after reset, with its lines high (the lines are the model's choice: assumption 5). -/
def Channel.afterReset : Channel where
  fba := .high
  fbb := .high
  cmd := false
  unit := .unused
  override := .auto
  normal := .stop
  lastFire := none
  testDemand := none
  resolved := none

/-- The test record after reset (Table 6-1). -/
def TestRecord.afterReset : TestRecord where
  state := .idle
  first := 0
  count := 0
  current := none
  step := none
  home := none
  results := []
  failed := 0

/-- The scheduler after reset, with the stored nALW as its limit in force (R119). -/
def Scheduler.afterReset (nALW : Nat) : Scheduler where
  queue := []
  inUse := 0
  limit := nALW
  pendingLimit := none
  spacing := .idle

/-- A port record after reset (Table 7-1), with the points of its change set (R147). -/
def PortRec.afterReset (points : Vector Bool 64) : PortRec where
  inSlots := Vector.replicate 4 none
  wptr := 0
  inProgress := none
  outSlots := Vector.replicate 4 none
  rptr := 0
  lastDriven := 0x00#8
  overrun := false
  underrun := false
  short := false
  reset := true
  points := points
  zones := Vector.replicate 32 true

/-- The machine right after device reset, with the store at its delivery values (R166), every zone, feedback and
SUPFAIL line at a high level (assumption 5) and nothing waiting. -/
def State.reset : State where
  held := false
  clkin := true
  periodEnds := []
  zones := Vector.replicate 32 { raw := .high, filter := .settled .high, isolated := false }
  alarms := []
  store := .delivery
  write := none
  plant :=
    { chans := Vector.replicate 64 .afterReset
      mode := .normal
      sched := .afterReset 20
      supply := { raw := .high, filter := .settled .high, state := .good, settle := .idle }
      test := .afterReset
      joinReports := []
      draws := 0 }
  ports :=
    { a := .afterReset (Vector.replicate 64 false)
      f := .afterReset (Vector.replicate 64 false)
      b := .afterReset (Vector.replicate 64 false) }
  pending := []

end Sys2Proof.Machine
end

