-- ==== Sys2Proof/Machine/Ops.lean ====
section
/-! DEFINITION. The shared operations: timers and line filters, the store as a block reads it, the records of a
channel, the marks and reports of an event in progress, and the free order of what has no stated order. -/

namespace Sys2Proof.Machine

/-! ## Timers and filters -/

/-- Loads a timer with `n` eighths. Zero runs out within the loading event, so it leaves the timer idle and the rule
that loads it makes the running-out itself (R150). -/
def Timer.load (n : Nat) : Timer := if n = 0 then .idle else .running n 0

/-- The timer is running. -/
def Timer.isRunning : Timer → Bool
  | .idle => false
  | .running _ _ => true

/-- A change of the raw level at a filter whose time is `n` eighths (R2, R53): a level that differs from the filtered
level loads the timer, or is taken at once when `n` is 0; a return to the filtered level cancels the timer. -/
def Filter.rawChange (n : Nat) (raw : Level) (f : Filter) : Filter :=
  if raw = f.filtered then { f with timer := .idle }
  else if n = 0 then .settled raw
  else { f with timer := .load n }

/-- The filter timer runs out: the filtered level takes the raw level (R3, R53). -/
def Filter.expire (raw : Level) (_f : Filter) : Filter := .settled raw

/-! ## Reading the store -/

/-- The stored record of a point. -/
def Store.point (st : Store) (p : Point) : PointCfg := st.points[p]

/-- The stored record of a zone. -/
def Store.zone (st : Store) (z : Zone) : ZoneCfg := st.zones[z]

/-- The scenario entry of a zone and a point (R25). -/
def Store.entry (st : Store) (z : Zone) (p : Point) : Option Action := (st.scenario[z])[p]

/-- The kind of a point. -/
def Store.kind (st : Store) (p : Point) : Kind := (st.point p).kind

/-- The path list of a point record, without its absent entries. -/
def PointCfg.pathEntries (c : PointCfg) : List Point :=
  [c.path0, c.path1, c.path2, c.path3].filterMap id

/-- A fan's path dampers: an entry naming a point whose kind is not DAMPER is absent (R166). -/
def Store.pathDampers (st : Store) (q : Point) : List Point :=
  (st.point q).pathEntries.filter fun d => st.kind d == .damper

/-- A damper's path fans: the FAN points whose path lists name it (chapter 3, the close wait). -/
def Store.pathFans (st : Store) (d : Point) : List Point :=
  allPoints.filter fun q => st.kind q == .fan && (st.pathDampers q).contains d

/-! ## Channels and their records -/

/-- The channel of a point. -/
def Plant.chan (pl : Plant) (p : Point) : Channel := pl.chans[p]

/-- Replaces the channel of a point. -/
def Plant.setChan (pl : Plant) (p : Point) (c : Channel) : Plant := { pl with chans := pl.chans.set p c }

/-- The damper record of a channel, if it has one. -/
def Channel.damper? (c : Channel) : Option Damper :=
  match c.unit with
  | .damper d => some d
  | _ => none

/-- The fan record of a channel, if it has one. -/
def Channel.fan? (c : Channel) : Option Fan :=
  match c.unit with
  | .fan f => some f
  | _ => none

/-- The damper record of a point. -/
def Plant.damper? (pl : Plant) (p : Point) : Option Damper := (pl.chan p).damper?

/-- The fan record of a point. -/
def Plant.fan? (pl : Plant) (p : Point) : Option Fan := (pl.chan p).fan?

/-- The states in which a fan's CMD is energised (R75, Table 4-2). -/
def FanState.energised : FanState → Bool
  | .starting | .running | .lost => true
  | _ => false

/-- The states in which a fan counts as turning for the close wait (Table 4-2). -/
def FanState.turning : FanState → Bool
  | .starting | .running | .lost | .runDown => true
  | _ => false

/-- The point is a fan that is turning. -/
def Plant.turning (pl : Plant) (q : Point) : Bool :=
  match pl.fan? q with
  | some f => f.state.turning
  | none => false

/-- The point is a damper that stands OPEN. -/
def Plant.isOpen (pl : Plant) (d : Point) : Bool :=
  match pl.damper? d with
  | some x => x.pos == .opened
  | none => false

/-- Every path damper of a fan is OPEN (R75). -/
def pathOpen (st : Store) (pl : Plant) (q : Point) : Bool := (st.pathDampers q).all pl.isOpen

/-- At least one path fan of a damper is turning (R67). -/
def anyPathFanTurning (st : Store) (pl : Plant) (d : Point) : Bool := (st.pathFans d).any pl.turning

/-- The source of a fan's held demand is OVERRIDE. -/
def Fan.underOverride (f : Fan) : Bool :=
  match f.held with
  | some h => h.source == .override
  | none => false

/-- The level of SPD (R98): low while CMD is de-energised; constant high for a FIXED fan; else high for the first
2 × S counts of each period. -/
def Channel.spdHigh (c : PointCfg) (ch : Channel) : Bool :=
  match ch.unit with
  | .fan f => ch.cmd && (c.speedControl == .fixed || decide (f.speed.phase < 2 * f.speed.applied))
  | _ => false

/-! ## The event in progress -/

/-- The event as it begins. -/
def Ev.start (pl : Plant) : Ev := { plant := pl, marks := [], reports := [], evalDue := false, joined := [] }

/-- Marks a point (R145). -/
def Ev.mark (p : Point) (ev : Ev) : Ev := { ev with marks := p :: ev.marks }

/-- Marks a point when something of it has changed. -/
def Ev.markIf (b : Bool) (p : Point) (ev : Ev) : Ev := if b then ev.mark p else ev

/-- Makes a report, to be taken up after those made before it. -/
def Ev.report (r : Report) (ev : Ev) : Ev := { ev with reports := ev.reports ++ [r] }

/-- Brings a cause of evaluation (R104). -/
def Ev.evaluateIf (b : Bool) (ev : Ev) : Ev := { ev with evalDue := ev.evalDue || b }

/-- Changes the plant. -/
def Ev.withPlant (g : Plant → Plant) (ev : Ev) : Ev := { ev with plant := g ev.plant }

/-- Replaces the channel of a point. -/
def Ev.setChan (p : Point) (c : Channel) (ev : Ev) : Ev := ev.withPlant fun pl => pl.setChan p c

/-- Changes the scheduler. -/
def Ev.withSched (g : Scheduler → Scheduler) (ev : Ev) : Ev :=
  ev.withPlant fun pl => { pl with sched := g pl.sched }

/-- Changes the test record. -/
def Ev.withTest (g : TestRecord → TestRecord) (ev : Ev) : Ev :=
  ev.withPlant fun pl => { pl with test := g pl.test }

/-- Sets the mode (R40). -/
def Ev.setMode (m : Mode) (ev : Ev) : Ev := ev.withPlant fun pl => { pl with mode := m }

/-! ## The free order -/

/-- Inserts into a list ordered by rank. -/
def insertByRank {α : Type} (x : Nat × α) : List (Nat × α) → List (Nat × α)
  | [] => [x]
  | y :: ys => if x.1 ≤ y.1 then x :: y :: ys else y :: insertByRank x ys

/-- Gives each element of a list the rank that the `n`-th free choice gives to its place. -/
def ranked {α : Type} (n : Nat) : Nat → List α → List (Nat × α)
  | _, [] => []
  | i, x :: xs => (Config.freeRank n i, x) :: ranked n (i + 1) xs

/-- The list in the order of the `n`-th free choice: what the manual says happens 'in no stated order' (R24) or
with 'either taken first' (R150). Every order is possible, since the ranks are free values (assumption 2). -/
def inFreeOrder {α : Type} (n : Nat) (l : List α) : List α :=
  ((ranked n 0 l).foldr insertByRank []).map Prod.snd

end Sys2Proof.Machine
end

