-- ==== Sys2Proof/Machine/Flags.lean ====
section
/-! DEFINITION. A port's flags, its reply byte 0 and its attention line (R138, R142, R144, Table 8-1). -/

namespace Sys2Proof.Machine

/-- The reply codes of Table 8-3. -/
inductive ReplyCode where
  | done
  | unknown
  | port
  | range
  | mode
  | isolated
  | state
deriving DecidableEq, Repr

/-- The value of a reply code (Table 8-3). -/
def ReplyCode.value : ReplyCode → Nat
  | .done => 0
  | .unknown => 1
  | .port => 2
  | .range => 3
  | .mode => 4
  | .isolated => 5
  | .state => 6

/-- A reply before the port adds its flags (Table 8-1). -/
structure Reply where
  code : ReplyCode
  r1   : Byte
  r2   : Byte
  r3   : Byte
deriving DecidableEq, Repr

/-- The value of the flags that stand: OVERRUN 10h, UNDERRUN 20h, SHORT 40h, RESET 80h (Table 8-1). -/
def PortRec.flagValue (r : PortRec) : Nat :=
  (if r.overrun then 0x10 else 0) + (if r.underrun then 0x20 else 0) + (if r.short then 0x40 else 0) +
    (if r.reset then 0x80 else 0)

/-- Byte 0 of a reply (R142, R153). -/
def PortRec.byte0 (r : PortRec) (c : ReplyCode) : Byte := byte (c.value + r.flagValue)

/-- The flags are cleared (R142). -/
def PortRec.clearFlags (r : PortRec) : PortRec :=
  { r with overrun := false, underrun := false, short := false, reset := false }

/-- The output slots hold at least one FULL byte. -/
def PortRec.replyWaiting (r : PortRec) : Bool :=
  r.outSlots[0].isSome || r.outSlots[1].isSome || r.outSlots[2].isSome || r.outSlots[3].isSome

/-- The complete order in the input slots: all four FULL (R138). -/
def PortRec.completeOrder (r : PortRec) : Option Order :=
  match r.inSlots[0], r.inSlots[1], r.inSlots[2], r.inSlots[3] with
  | some c, some x, some y, some z => some { code := c, b1 := x, b2 := y, b3 := z }
  | _, _, _, _ => none

/-- No input slot is FULL. -/
def PortRec.inputEmpty (r : PortRec) : Bool :=
  r.inSlots[0].isNone && r.inSlots[1].isNone && r.inSlots[2].isNone && r.inSlots[3].isNone

/-- A change set is not empty. -/
def anyMember {n : Nat} (v : Vector Bool n) : Bool := (List.finRange n).any fun (i : Fin n) => v[i]

/-- The attention line is active (R144). -/
def PortRec.attention (r : PortRec) : Bool :=
  r.replyWaiting ||
    (r.inProgress.isNone && r.completeOrder.isNone && (anyMember r.points || anyMember r.zones))

/-- The record of a port. -/
def Ports.get (ps : Ports) : PortId → PortRec
  | .a => ps.a
  | .f => ps.f
  | .b => ps.b

/-- Replaces the record of a port. -/
def Ports.set (ps : Ports) (i : PortId) (r : PortRec) : Ports :=
  match i with
  | .a => { ps with a := r }
  | .f => { ps with f := r }
  | .b => { ps with b := r }

/-- The record of a port of the machine. -/
def State.port (s : State) (i : PortId) : PortRec := s.ports.get i

/-- Replaces the record of a port of the machine. -/
def State.setPort (i : PortId) (r : PortRec) (s : State) : State := { s with ports := s.ports.set i r }

/-- A port's ATN line is active: never while device reset is held (R144, R149). -/
def State.atn (s : State) (i : PortId) : Bool := !s.held && (s.port i).attention

/-- The level of a point's SPD output (R98). -/
def State.spd (s : State) (p : Point) : Bool := (s.plant.chan p).spdHigh (s.store.point p)

/-- A point's CMD output (R51, R75). -/
def State.cmd (s : State) (p : Point) : Bool := (s.plant.chan p).cmd

end Sys2Proof.Machine
end

