-- ==== Sys2Proof/Machine/Damper.lean ====
section
/-! DEFINITION. The damper record alone (chapter 3): drive sense, limits, strokes, limit events, the stroke timer.
Functions here read one point record and one damper record; what a change of the record brings elsewhere stands in
Sequencers.lean. -/

namespace Sys2Proof.Machine

/-- The CMD level that drives a damper towards an end (Table 3-3). -/
def driveLevel (c : PointCfg) : DamperEnd → Bool
  | .openEnd => c.driveSense == .energiseOpen
  | .closedEnd => c.driveSense == .energiseClose

/-- CMD by position state and held demand (R51, Table 3-2): before the first demand it is de-energised. -/
def damperCmd (c : PointCfg) (d : Damper) : Bool :=
  match d.pos with
  | .opening | .opened | .waitFan => driveLevel c .openEnd
  | .closing | .closed => driveLevel c .closedEnd
  | .unproven =>
    match d.held with
    | some h => driveLevel c h.target
    | none => false

/-- The arrangement reads FBA (R52). -/
def PointCfg.readsFba (c : PointCfg) : Bool := c.feedback != .timed

/-- The arrangement reads FBB (R52). -/
def PointCfg.readsFbb (c : PointCfg) : Bool := c.feedback == .twoLimit

/-- The open limit is active (R52). -/
def openLimitActive (c : PointCfg) (d : Damper) : Bool := c.readsFba && d.fbaFilt.filtered == .low

/-- The closed limit is active (R52). -/
def closedLimitActive (c : PointCfg) (d : Damper) : Bool := c.readsFbb && d.fbbFilt.filtered == .low

/-- The limit of an end is active. -/
def limitActive (c : PointCfg) (d : Damper) : DamperEnd → Bool
  | .openEnd => openLimitActive c d
  | .closedEnd => closedLimitActive c d

/-- The other end. -/
def DamperEnd.other : DamperEnd → DamperEnd
  | .openEnd => .closedEnd
  | .closedEnd => .openEnd

/-- The position state of a stroke in progress towards an end. -/
def DamperEnd.moving : DamperEnd → DamperPos
  | .openEnd => .opening
  | .closedEnd => .closing

/-- The position state of a proven end. -/
def DamperEnd.proven : DamperEnd → DamperPos
  | .openEnd => .opened
  | .closedEnd => .closed

/-- Records a fault: the fault field keeps the first one (R65). -/
def Damper.recordFault (x : DamperFault) (d : Damper) : Damper :=
  if d.fault = .none then { d with fault := x } else d

/-- The position is proven by a limit: the stroke timer is cancelled and TIMED is clear (R56, R59, R64). -/
def Damper.proveByLimit (e : DamperEnd) (d : Damper) : Damper :=
  { d with pos := e.proven, stroke := .idle, timed := false }

/-- The position is proven by time: TIMED is set (R60). -/
def Damper.proveByTime (e : DamperEnd) (d : Damper) : Damper :=
  { d with pos := e.proven, stroke := .idle, timed := true }

/-- A conflict of limits (R63): WAITFAN stays; any other state becomes UNPROVEN with TIMED clear, and the stroke
timer runs on or stays idle. -/
def Damper.conflict (d : Damper) : Damper :=
  if d.pos = .waitFan then d.recordFault .conflict
  else { d.recordFault .conflict with pos := .unproven, timed := false }

/-- A stroke towards an end (R56): TIMED cleared, the stroke timer loaded with tSTK, the limits tested at once. -/
def Damper.strokeTowards (c : PointCfg) (e : DamperEnd) (d : Damper) : Damper :=
  let d := { d with timed := false, stroke := .load (8 * c.tSTK) }
  match c.feedback with
  | .twoLimit =>
    if limitActive c d e && limitActive c d e.other then
      { d.recordFault .conflict with pos := .unproven }
    else if limitActive c d e then d.proveByLimit e
    else { d with pos := e.moving }
  | .openLimit =>
    if e = .openEnd ∧ openLimitActive c d = true then d.proveByLimit .openEnd
    else { d with pos := e.moving }
  | .timed => { d with pos := e.moving }

/-- DRIFT (R62): the fault is recorded and a stroke towards the held demand's end begins. -/
def Damper.drift (c : PointCfg) (d : Damper) : Damper :=
  match d.held with
  | some h => (d.recordFault .drift).strokeTowards c h.target
  | none => d

/-- A limit event in UNPROVEN that leaves at most one limit active (R64). -/
def Damper.leaveUnproven (c : PointCfg) (d : Damper) : Damper :=
  match d.held with
  | none => d
  | some h =>
    if limitActive c d h.target then d.proveByLimit h.target
    else
      { d with
        pos := h.target.moving
        stroke := if d.stroke.isRunning then d.stroke else .load (8 * c.tSTK) }

/-- A limit event under TWO-LIMIT at the input that has changed (R59, R62 to R64). -/
def Damper.limitEventTwoLimit (c : PointCfg) (input : LimitInput) (d : Damper) : Damper :=
  if openLimitActive c d && closedLimitActive c d then d.conflict
  else
    match d.pos with
    | .opening => if openLimitActive c d then d.proveByLimit .openEnd else d
    | .closing => if closedLimitActive c d then d.proveByLimit .closedEnd else d
    | .opened => if input = .fba ∧ openLimitActive c d = false then d.drift c else d
    | .closed => if input = .fbb ∧ closedLimitActive c d = false then d.drift c else d
    | .unproven => d.leaveUnproven c
    | .waitFan => d

/-- A limit event under OPEN-LIMIT (R59, R60, R62, R64). In CLOSING with the open limit inactive, an idle stroke
timer is one that has run out, and the later of the two events proves CLOSED by time. -/
def Damper.limitEventOpenLimit (c : PointCfg) (d : Damper) : Damper :=
  match d.pos with
  | .opening => if openLimitActive c d then d.proveByLimit .openEnd else d
  | .closing =>
    if openLimitActive c d = false ∧ d.stroke.isRunning = false then d.proveByTime .closedEnd else d
  | .opened => if openLimitActive c d then d else d.drift c
  | .closed => if openLimitActive c d then d.drift c else d
  | .unproven => d.leaveUnproven c
  | .waitFan => d

/-- A limit event at the damper record, by the feedback arrangement (R53). Under TIMED there is none (R52). -/
def Damper.limitEvent (c : PointCfg) (input : LimitInput) (d : Damper) : Damper :=
  match c.feedback with
  | .twoLimit => d.limitEventTwoLimit c input
  | .openLimit => d.limitEventOpenLimit c
  | .timed => d

/-- The stroke timer runs out in a stroke towards an end: proof by time (R60), or a STROKE fault (R61). -/
def Damper.strokeRunsOutTowards (c : PointCfg) (e : DamperEnd) (d : Damper) : Damper :=
  match c.feedback with
  | .twoLimit => d.recordFault .stroke
  | .openLimit =>
    if e = .closedEnd ∧ openLimitActive c d = false then d.proveByTime .closedEnd else d.recordFault .stroke
  | .timed => d.proveByTime e

/-- The stroke timer runs out (R60, R61). -/
def Damper.strokeRunsOut (c : PointCfg) (d : Damper) : Damper :=
  let d := { d with stroke := .idle }
  match d.pos with
  | .opening => d.strokeRunsOutTowards c .openEnd
  | .closing => d.strokeRunsOutTowards c .closedEnd
  | .unproven => d.recordFault .stroke
  | .opened | .closed | .waitFan => d

/-- The close wait takes hold (R67): WAITFAN, the stroke timer idle, TIMED clear. -/
def Damper.enterWaitFan (d : Damper) : Damper := { d with pos := .waitFan, stroke := .idle, timed := false }

/-- A demand is taken (R55, R57, R58, R67, R68); `turning` says whether a path fan is turning. -/
def Damper.takeDemand (c : PointCfg) (turning : Bool) (e : DamperEnd) (src : Source) (d : Damper) : Damper :=
  let d' := { d with held := some { target := e, source := src } }
  if d.held.map DamperHeld.target = some e then
    if d.pos = .waitFan ∧ e = .closedEnd ∧ src = .override then d'.strokeTowards c .closedEnd else d'
  else
    match e with
    | .openEnd => d'.strokeTowards c .openEnd
    | .closedEnd =>
      if turning && src != .override then d'.enterWaitFan else d'.strokeTowards c .closedEnd

/-- EQRS on a damper with a fault (R66): the fault is cleared; a state short of its position with the timer idle
has the timer loaded again. -/
def Damper.clearFault (c : PointCfg) (d : Damper) : Damper :=
  let reload := (d.pos = .opening ∨ d.pos = .closing ∨ d.pos = .unproven) ∧ d.stroke.isRunning = false
  { d with fault := .none, stroke := if reload then .load (8 * c.tSTK) else d.stroke }

/-- A damper record after reset or re-initialisation (R72, R73), with its limit lines as they stand. -/
def Damper.afterReset (fba fbb : Level) : Damper where
  pos := .unproven
  held := none
  fault := .none
  stroke := .idle
  timed := false
  fbaFilt := .settled fba
  fbbFilt := .settled fbb

end Sys2Proof.Machine
end

