-- ==== Sys2Proof/Machine/Fan.lean ====
section
/-! DEFINITION. The fan record alone (chapter 4): the run-proof arithmetic, gate windows, the speed reference, the
drive-fault contact, the states. What a change of the record brings elsewhere stands in Sequencers.lean. -/

namespace Sys2Proof.Machine

/-! ## Run-proof arithmetic (R95) -/

/-- The expected count E of one window at applied speed `s`. -/
def expectedCount (c : PointCfg) (s : Nat) : Nat :=
  (s * (c.nRATE * 20) * c.nPPR * c.nGATE + 24000) / 48000

/-- Band low: 1 when E is below 8. -/
def bandLow (c : PointCfg) (e : Nat) : Nat := if 8 ≤ e then e * (100 - c.nTOL) / 100 else 1

/-- Band high, at most 4095. -/
def bandHigh (c : PointCfg) (e : Nat) : Nat :=
  if 8 ≤ e then min ((e * (100 + c.nTOL) + 99) / 100) Config.countMax else Config.countMax

/-! ## Gate windows (R94, R96, R99) -/

/-- A window begins at applied speed `s` (R94). -/
def RunProof.beginWindow (c : PointCfg) (s : Nat) (r : RunProof) : RunProof :=
  let e := expectedCount c s
  { r with gate := .load c.nGATE, count := 0, expected := e, low := bandLow c e, high := bandHigh c e }

/-- Both run counters are cleared. -/
def RunProof.clearCounters (r : RunProof) : RunProof := { r with inRun := 0, outRun := 0 }

/-- The window in progress is stopped without a verdict as CMD is de-energised (R94). -/
def RunProof.stop (r : RunProof) : RunProof := { r.clearCounters with gate := .idle, count := 0 }

/-- A rising edge of FBA: one is added to the window count, up to 4095 (R94). -/
def RunProof.edge (r : RunProof) : RunProof := { r with count := min (r.count + 1) Config.countMax }

/-- The verdict of the window: in-band (R96). -/
def RunProof.inBand (r : RunProof) : Bool := decide (r.low ≤ r.count ∧ r.count ≤ r.high)

/-- The window ends with its verdict (R96). -/
def RunProof.endWindow (c : PointCfg) (r : RunProof) : RunProof :=
  { r with
    inRun := if r.inBand then min (r.inRun + 1) c.nK else 0
    outRun := if r.inBand then 0 else min (r.outRun + 1) c.nK
    lastCount := r.count
    lastE := r.expected }

/-- The run-proof counter after reset (Table 4-5). -/
def RunProof.afterReset : RunProof where
  gate := .idle
  count := 0
  expected := 0
  low := 0
  high := 0
  inRun := 0
  outRun := 0
  lastCount := 0
  lastE := 0

/-! ## Speed reference (R98, R99) -/

/-- The speed reference while CMD is de-energised (R98). That the phase stands at 0 while no period runs is the model's
choice (assumption 30): SPD is low whatever it is, and a start begins at phase 0. -/
def SpeedRef.atRest : SpeedRef := { applied := 0, pending := none, phase := 0 }

/-- The speed a start applies: the held speed for a VARIABLE fan, 100 for a FIXED fan (R79). -/
def startSpeed (c : PointCfg) (held : Nat) : Nat := if c.speedControl = .fixed then 100 else held

/-- A RUN at a new speed handed to an energised fan (R78, R99): pending on a VARIABLE fan unless it equals the
applied speed; without effect on a FIXED fan. -/
def SpeedRef.take (c : PointCfg) (s : Nat) (r : SpeedRef) : SpeedRef :=
  if c.speedControl = .fixed then r
  else { r with pending := if s = r.applied then none else some s }

/-! ## Drive-fault contact (R89) -/

/-- The drive-fault contact field has FBB read. -/
def PointCfg.readsDriveContact (c : PointCfg) : Bool := c.driveContact != .none

/-- The drive fault is indicated, by the contact field and the filtered level of FBB. -/
def driveFaultIndicated (c : PointCfg) (filtered : Level) : Bool :=
  match c.driveContact with
  | .none => false
  | .opensOnFault => filtered == .high
  | .closesOnFault => filtered == .low

/-- What follows from the state: the wait reason is absent outside QUEUED (R107), the fault kind is none outside
FAULT (Table 4-1), and the drive-alarm flag is set exactly while the fault is indicated and CMD is
de-energised (R89). -/
def Fan.norm (c : PointCfg) (f : Fan) : Fan :=
  { f with
    wait := if f.state = .queued then f.wait else none
    fault := if f.state = .fault then f.fault else .none
    driveAlarm := driveFaultIndicated c f.fbbFilt.filtered && !f.state.energised }

/-! ## States -/

/-- CMD is de-energised (R81, R84, R90): the proof-limit timer is cancelled, the window stopped, the pending speed
made absent and SPD put to rest. -/
def Fan.deEnergise (f : Fan) : Fan :=
  { f with proofLimit := .idle, proof := f.proof.stop, speed := .atRest }

/-- Entry to RUNDOWN (R83, R84). -/
def Fan.toRunDown (c : PointCfg) (f : Fan) : Fan :=
  { f.deEnergise with state := .runDown, runDown := .load (8 * c.tRD) }

/-- Entry to FAULT with a fault kind (R81, R90). -/
def Fan.toFault (k : FanFault) (f : Fan) : Fan := { f.deEnergise with state := .fault, fault := k }

/-- The held demand is RUN. -/
def Fan.wantsRun (f : Fan) : Bool :=
  match f.held with
  | some { want := .run _, .. } => true
  | _ => false

/-- The speed of a held RUN, 0 if there is none. -/
def Fan.heldSpeed (f : Fan) : Nat :=
  match f.held with
  | some { want := .run s, .. } => s
  | _ => 0

/-- The state at the end of a run-down (R85). -/
def Fan.afterRunDown (f : Fan) : Fan :=
  { f with runDown := .idle, state := if f.wantsRun then .queued else .idle }

/-- A start (R79): STARTING, the applied speed, a period at phase 0, the proof-limit timer, cleared counters and the
first window. -/
def Fan.started (c : PointCfg) (f : Fan) : Fan :=
  let s := startSpeed c f.heldSpeed
  { f with
    state := .starting
    proofLimit := .load (8 * c.tPL)
    proof := f.proof.clearCounters.beginWindow c s
    speed := { applied := s, pending := none, phase := 0 } }

/-- The state that the counters of the window just ended give (R80, R82). -/
def Fan.actOnCounters (c : PointCfg) (f : Fan) : Fan :=
  match f.state with
  | .starting => if c.nK ≤ f.proof.inRun then { f with state := .running, proofLimit := .idle } else f
  | .running => if c.nK ≤ f.proof.outRun then { f with state := .lost } else f
  | .lost => if c.nK ≤ f.proof.inRun then { f with state := .running } else f
  | _ => f

/-- The gate timer runs out (R96): the window ends with its verdict, the next begins, the fan acts on the counters. -/
def Fan.windowEnds (c : PointCfg) (f : Fan) : Fan :=
  Fan.actOnCounters c { f with proof := (f.proof.endWindow c).beginWindow c f.speed.applied }

/-- A period boundary of an energised fan (R98, R99): phase 0; a pending speed is applied and restarts the window. -/
def Fan.boundary (c : PointCfg) (f : Fan) : Fan :=
  match f.speed.pending with
  | none => { f with speed := { f.speed with phase := 0 } }
  | some s =>
    { f with
      speed := { applied := s, pending := none, phase := 0 }
      proof := f.proof.clearCounters.beginWindow c s }

/-- A fan record after reset or re-initialisation (R101, R102), with its FBB line as it stands. A fan with tRD 0
leaves RUNDOWN at once, into IDLE. -/
def Fan.afterReset (c : PointCfg) (fbb : Level) : Fan :=
  Fan.norm c
    { state := if c.tRD = 0 then .idle else .runDown
      fault := .none
      held := none
      wait := none
      runDown := .load (8 * c.tRD)
      proofLimit := .idle
      driveAlarm := false
      fbbFilt := .settled fbb
      proof := .afterReset
      speed := .atRest }

end Sys2Proof.Machine
end

