-- ==== Sys2Proof/Machine/Scheduler.lean ====
section
/-! DEFINITION. The start queue and the allowance (R103, R109 to R111). The evaluation stands in Evaluation.lean,
over the fan sequencer. -/

namespace Sys2Proof.Machine

/-- The place of a fan in the queue: stage, then point number (R103). -/
def queueBefore (st : Store) (p q : Point) : Bool :=
  decide ((st.point p).nSTG < (st.point q).nSTG) ||
    (decide ((st.point p).nSTG = (st.point q).nSTG) && decide (p.val ≤ q.val))

/-- Puts a fan into the queue at its place (R103). -/
def queueInsert (st : Store) (p : Point) : List Point → List Point
  | [] => [p]
  | q :: qs => if queueBefore st p q then p :: q :: qs else q :: queueInsert st p qs

/-- A fan joins the start queue (R103). -/
def Scheduler.join (st : Store) (p : Point) (sc : Scheduler) : Scheduler :=
  { sc with queue := queueInsert st p sc.queue }

/-- A fan leaves the start queue; the fans behind it close up (R103). -/
def Scheduler.leave (p : Point) (sc : Scheduler) : Scheduler :=
  { sc with queue := sc.queue.filter (· != p) }

/-- The point is a fan in STARTING. -/
def Plant.isStarting (pl : Plant) (q : Point) : Bool :=
  match pl.fan? q with
  | some f => f.state == .starting
  | none => false

/-- The number of fans in STARTING. -/
def Plant.nStarting (pl : Plant) : Nat := (allPoints.filter pl.isStarting).length

/-- The terms on which a new limit comes into force (R111). -/
def limitTerms (pl : Plant) (n : Nat) : Bool :=
  decide (pl.sched.inUse ≤ n) || decide (pl.nStarting ≤ 1)

/-- The pending limit is tested and taken if the terms hold (R111). -/
def Ev.testPendingLimit (ev : Ev) : Ev :=
  match ev.plant.sched.pendingLimit with
  | none => ev
  | some n =>
    if limitTerms ev.plant n then ev.withSched fun sc => { sc with limit := n, pendingLimit := none } else ev

/-- A fan has left STARTING: its units are returned, a pending limit is tested, and an evaluation is due
(R104, R109, R111). -/
def Ev.unitsReturned (units : Nat) (ev : Ev) : Ev :=
  ((ev.withSched fun sc => { sc with inUse := sc.inUse - units }).testPendingLimit).evaluateIf true

/-- A completed write of nALW (R111): the limit in force, or the pending limit. -/
def Ev.newLimit (n : Nat) (ev : Ev) : Ev :=
  if limitTerms ev.plant n then
    (ev.withSched fun sc => { sc with limit := n, pendingLimit := none }).evaluateIf true
  else ev.withSched fun sc => { sc with pendingLimit := some n }

end Sys2Proof.Machine
end

