-- ==== Sys2Proof/Machine/Sequencers.lean ====
section
/-! DEFINITION. The damper sequencer and the fan sequencer together: what a change of one record brings at the other
(the interlock trip, the close wait's release), at the scheduler, in the marks and in the reports (R68, R69, R71,
R84 to R87, R92). The layers: a damper record is written; WAITFAN dampers are released; a fan record is written; a
fan runs down; a damper that leaves OPEN trips its fans. -/

namespace Sys2Proof.Machine

/-- Writes a damper record with its CMD (R51), marks the point when its position state, fault field or TIMED flag
changes (R71), reports the change to the test unit (R124), and brings an evaluation when the damper becomes OPEN or
leaves OPEN (R69, R104). -/
def putDamper (env : Env) (p : Point) (d : Damper) (ev : Ev) : Ev :=
  match ev.plant.damper? p with
  | none => ev
  | some o =>
    let newFault := o.fault = .none ∧ d.fault ≠ .none
    let ev := ev.setChan p { ev.plant.chan p with unit := .damper d, cmd := damperCmd (env.store.point p) d }
    let ev := ev.markIf (o.pos != d.pos || o.fault != d.fault || o.timed != d.timed) p
    let ev := ev.evaluateIf ((o.pos == .opened) != (d.pos == .opened))
    if o.pos ≠ d.pos ∨ newFault then
      ev.report (.damper p (if o.pos = d.pos then none else some d.pos) (if newFault then d.fault else .none))
    else ev

/-- A damper in WAITFAN with no path fan now turning begins its stroke towards closed (R68). -/
def releaseOne (env : Env) (ev : Ev) (p : Point) : Ev :=
  match ev.plant.damper? p with
  | none => ev
  | some d =>
    if d.pos = .waitFan ∧ anyPathFanTurning env.store ev.plant p = false then
      putDamper env p (d.strokeTowards (env.store.point p) .closedEnd) ev
    else ev

/-- Tests every damper in WAITFAN again (R68). -/
def releaseWaiting (env : Env) (ev : Ev) : Ev := allPoints.foldl (releaseOne env) ev

/-- The joining of a fan is noted for the scheduler's report when the fan is the point under test and its step is in
progress (R124, R129): a fan that queues on its normal demand as its step ends is not noted. -/
def Ev.noteJoining (p : Point) (ev : Ev) : Ev :=
  if ev.plant.test.state = .running ∧ ev.plant.test.current = some p ∧ ev.plant.test.step.isSome = true then
    { ev with joined := p :: ev.joined }
  else ev

/-- What a fan's change from `o` to `f` brings at the scheduler (R92, R103, R104, R109): joining and leaving the
queue, the return of its units, a change of a queued fan's drive-alarm flag, and a flag that clears. -/
def schedulerFollows (env : Env) (p : Point) (o f : Fan) (ev : Ev) : Ev :=
  let ev :=
    if o.state ≠ .queued ∧ f.state = .queued then
      ((ev.withSched (·.join env.store p)).evaluateIf true).noteJoining p
    else if o.state = .queued ∧ f.state ≠ .queued then (ev.withSched (·.leave p)).evaluateIf true
    else ev
  let ev :=
    if o.state = .starting ∧ f.state ≠ .starting then ev.unitsReturned (env.store.point p).nUNIT else ev
  ev.evaluateIf
    ((f.state == .queued && o.driveAlarm != f.driveAlarm) ||
      (o.driveAlarm && !f.driveAlarm && !f.state.energised))

/-- Writes a fan record with its CMD (R75), marks the point when its state, fault kind or drive-alarm flag changes,
reports a change of state (R92), and releases the close wait when the fan leaves the turning states (R68). -/
def putFan (env : Env) (p : Point) (f : Fan) (ev : Ev) : Ev :=
  match ev.plant.fan? p with
  | none => ev
  | some o =>
    let f := f.norm (env.store.point p)
    let ev := ev.setChan p { ev.plant.chan p with unit := .fan f, cmd := f.state.energised }
    let ev := ev.markIf (o.state != f.state || o.fault != f.fault || o.driveAlarm != f.driveAlarm) p
    let ev := schedulerFollows env p o f ev
    let ev := if o.state ≠ f.state then ev.report (.fan p f.state f.fault) else ev
    if o.state.turning && !f.state.turning then releaseWaiting env ev else ev

/-- The run-down timer has run out (R85). -/
def runDownEnds (env : Env) (p : Point) (ev : Ev) : Ev :=
  match ev.plant.fan? p with
  | none => ev
  | some f => if f.state = .runDown then putFan env p f.afterRunDown ev else ev

/-- A fan enters RUNDOWN (R84); with tRD 0 the timer runs out within the event (R83). -/
def enterRunDown (env : Env) (p : Point) (ev : Ev) : Ev :=
  match ev.plant.fan? p with
  | none => ev
  | some f =>
    let ev := putFan env p (f.toRunDown (env.store.point p)) ev
    if (env.store.point p).tRD = 0 then runDownEnds env p ev else ev

/-- The interlock trip of one fan (R86): an energised fan whose source is not OVERRIDE enters RUNDOWN. -/
def interlockTrip (env : Env) (ev : Ev) (q : Point) : Ev :=
  match ev.plant.fan? q with
  | none => ev
  | some f => if f.state.energised && !f.underOverride then enterRunDown env q ev else ev

/-- A damper leaves OPEN: every path fan makes the interlock trip (R69, R86). -/
def tripPathFans (env : Env) (p : Point) (ev : Ev) : Ev :=
  (env.store.pathFans p).foldl (interlockTrip env) ev

/-- A damper's record changes: it is written, and a change out of OPEN trips the path fans (R69). -/
def moveDamper (env : Env) (p : Point) (d : Damper) (ev : Ev) : Ev :=
  let wasOpen := ev.plant.isOpen p
  let ev := putDamper env p d ev
  if wasOpen && d.pos != .opened then tripPathFans env p ev else ev

/-- The damper end that an action asks (Table 2-2). -/
def Action.damperEnd : Action → DamperEnd
  | .toOpen | .run _ => .openEnd
  | .toClose | .stop => .closedEnd

/-- What an action asks of a fan (Table 2-2); a resolved demand of a fan is RUN or STOP already. -/
def Action.fanWant : Action → FanWant
  | .toOpen => .run 100
  | .run s => .run s
  | .toClose | .stop => .stop

/-- A demand is handed to a damper record (R55, R57, R58). -/
def handDamper (env : Env) (p : Point) (e : DamperEnd) (src : Source) (ev : Ev) : Ev :=
  match ev.plant.damper? p with
  | none => ev
  | some d =>
    moveDamper env p
      (d.takeDemand (env.store.point p) (anyPathFanTurning env.store ev.plant p) e src) ev

/-- A demand is handed to a fan record (R76 to R78, R87). -/
def handFan (env : Env) (p : Point) (w : FanWant) (src : Source) (ev : Ev) : Ev :=
  match ev.plant.fan? p with
  | none => ev
  | some o =>
    let f := { o with held := some { want := w, source := src } }
    match o.state, w with
    | .idle, .run _ => putFan env p { f with state := .queued } ev
    | .queued, .stop => putFan env p { f with state := .idle } ev
    | .queued, .run _ => (putFan env p f ev).evaluateIf true
    | .starting, .run s | .running, .run s | .lost, .run s =>
      let ev := putFan env p { f with speed := f.speed.take (env.store.point p) s } ev
      if src ≠ .override ∧ pathOpen env.store ev.plant p = false then enterRunDown env p ev else ev
    | .starting, .stop | .running, .stop | .lost, .stop => enterRunDown env p (putFan env p f ev)
    | .idle, .stop | .runDown, _ | .fault, _ => putFan env p f ev

/-- The resolver hands a demand to the point's sequencer (R24). -/
def handDemand (env : Env) (p : Point) (d : Demand) (ev : Ev) : Ev :=
  match (ev.plant.chan p).unit with
  | .unused => ev
  | .damper _ => handDamper env p d.action.damperEnd d.source ev
  | .fan _ => handFan env p d.action.fanWant d.source ev

/-- The supply is lost (R88, R116): every energised fan enters RUNDOWN whatever its source. -/
def supplyTripOne (env : Env) (ev : Ev) (q : Point) : Ev :=
  match ev.plant.fan? q with
  | none => ev
  | some f => if f.state.energised then enterRunDown env q ev else ev

/-- The supply trip of every fan; the allowance in use is then 0, and a pending limit comes into force (R109,
R111, R116). -/
def supplyTrip (env : Env) (ev : Ev) : Ev :=
  ((allPoints.foldl (supplyTripOne env) ev).withSched fun sc => { sc with inUse := 0 }).testPendingLimit

end Sys2Proof.Machine
end

