-- ==== Sys2Proof/Machine/Evaluation.lean ====
section
/-! DEFINITION. The evaluation of the start queue (R104 to R108) and the start (R79). -/

namespace Sys2Proof.Machine

/-- The reason for which a fan is passed over, if it is (R105): PATH before DRIVE. -/
def passedOver (env : Env) (pl : Plant) (p : Point) (f : Fan) : Option WaitReason :=
  if !f.underOverride && !pathOpen env.store pl p then some .path
  else if f.driveAlarm then some .drive
  else none

/-- The allowance check of the candidate passes (R106, R110): its units fit, or it is oversize and no fan is in
STARTING. -/
def allowanceAdmits (env : Env) (pl : Plant) (p : Point) : Bool :=
  let u := (env.store.point p).nUNIT
  decide (pl.sched.inUse + u ≤ pl.sched.limit) || (decide (pl.sched.limit < u) && decide (pl.nStarting = 0))

/-- The check that the candidate fails first, if any (R106). -/
def candidateWaits (env : Env) (pl : Plant) (p : Point) : Option WaitReason :=
  if pl.supply.state ≠ .good then some .supply
  else if pl.sched.spacing.isRunning then some .spacing
  else if allowanceAdmits env pl p then none
  else some .allowance

/-- Records a fan's wait reason (R107). -/
def setWait (p : Point) (f : Fan) (r : WaitReason) (ev : Ev) : Ev :=
  ev.setChan p { ev.plant.chan p with unit := .fan { f with wait := some r } }

/-- The scheduler starts a fan (R79, R108): STARTING, its units taken, the spacing timer loaded. -/
def startFan (env : Env) (p : Point) (f : Fan) (ev : Ev) : Ev :=
  (putFan env p (f.started (env.store.point p)) ev).withSched fun sc =>
    { sc with
      inUse := sc.inUse + (env.store.point p).nUNIT
      spacing := .load env.store.device.nSPC }

/-- The walk of the queue from the front (R106, R108). `blocked`: a candidate has failed a check, so every later fan
that is not passed over waits ORDER. -/
def evaluationWalk (env : Env) : Bool → List Point → Ev → Ev
  | _, [], ev => ev
  | blocked, p :: ps, ev =>
    match ev.plant.fan? p with
    | none => evaluationWalk env blocked ps ev
    | some f =>
      match passedOver env ev.plant p f with
      | some r => evaluationWalk env blocked ps (setWait p f r ev)
      | none =>
        if blocked then evaluationWalk env true ps (setWait p f .order ev)
        else
          match candidateWaits env ev.plant p with
          | some r => evaluationWalk env true ps (setWait p f r ev)
          | none => evaluationWalk env false ps (startFan env p f ev)

/-- One evaluation of the queue as it stands. -/
def evaluate (env : Env) (ev : Ev) : Ev := evaluationWalk env false ev.plant.sched.queue ev

end Sys2Proof.Machine
end

