-- ==== Sys2Proof/Machine/Resolver.lean ====
section
/-! DEFINITION. The plan resolver (chapter 2): read across, the merge, source priority, resolution and hand-over. -/

namespace Sys2Proof.Machine

/-- Raises a RUN speed below nMIN to nMIN (R23). -/
def Action.raised (c : PointCfg) : Action → Action
  | .run s => .run (max s c.nMIN)
  | a => a

/-- Puts a candidate action into the form of R22: read across to the point's kind (Table 2-2), then raised (R23). -/
def Action.inForm (c : PointCfg) (a : Action) : Action :=
  match c.kind with
  | .fan =>
    match a with
    | .toOpen => (Action.run 100).raised c
    | .toClose | .stop => .stop
    | .run s => (Action.run s).raised c
  | .damper | .unused =>
    match a with
    | .toOpen | .run _ => .toOpen
    | .toClose | .stop => .toClose

/-- The rest action of a kind: STOP for a FAN, CLOSE for a DAMPER (Tables 2-2 and 2-3, R43). -/
def restAction (c : PointCfg) : Action := Action.stop.inForm c

/-- The active action of a kind: RUN at nOVS for a FAN, OPEN for a DAMPER (R29, Table 2-3). -/
def activeAction (c : PointCfg) : Action :=
  match c.kind with
  | .fan => (Action.run c.nOVS).inForm c
  | .damper | .unused => .toOpen

/-- The unassigned action of a point, given its normal-demand entry (R27). -/
def unassignedAction (c : PointCfg) (normal : Action) : Action :=
  match c.unassigned with
  | .normal => normal.inForm c
  | .active => activeAction c
  | .rest => restAction c

/-- The first zone of the alarm list whose scenario entry for a point is not NONE, with that entry (R26). -/
def firstAssignment (st : Store) (p : Point) : List AlarmEntry → Option (Zone × Action)
  | [] => none
  | e :: es =>
    match st.entry e.zone p with
    | some a => some (e.zone, a)
    | none => firstAssignment st p es

/-- The fire demand of a point by the merge (R26, R27). -/
def fireDemand (env : Env) (p : Point) (normal : Action) : Demand :=
  let c := env.store.point p
  match firstAssignment env.store p env.alarms with
  | some (z, a) => { action := a.inForm c, source := .fire, fireZone := some z }
  | none => { action := unassignedAction c normal, source := .unassigned, fireZone := none }

/-- The demand of the override entry, if it is ON or OFF (R29). -/
def overrideDemand (c : PointCfg) : Override → Option Demand
  | .auto => none
  | .on => some { action := activeAction c, source := .override, fireZone := none }
  | .off => some { action := restAction c, source := .override, fireZone := none }

/-- The normal demand (R35). -/
def normalDemand (c : PointCfg) (ch : Channel) : Demand :=
  { action := ch.normal.inForm c, source := .normal, fireZone := none }

/-- The RESTORE demand (R43). -/
def restoreDemand (c : PointCfg) (ch : Channel) : Demand :=
  { action :=
      match c.kind with
      | .fan => .stop
      | .damper | .unused => (ch.lastFire.getD .toClose).inForm c
    source := .restore
    fireZone := none }

/-- The demand that the mode gives a point whose override entry is AUTO (Table 2-4). -/
def modeDemand (env : Env) (m : Mode) (p : Point) (ch : Channel) : Demand :=
  let c := env.store.point p
  match m with
  | .fire => fireDemand env p ch.normal
  | .restore => restoreDemand c ch
  | .test =>
    match ch.testDemand with
    | some a => { action := a.inForm c, source := .test, fireZone := none }
    | none => normalDemand c ch
  | .normal | .commission => normalDemand c ch

/-- The resolved demand of a FAN or DAMPER point (R35): the override first, then the mode's. -/
def resolution (env : Env) (m : Mode) (p : Point) (ch : Channel) : Demand :=
  (overrideDemand (env.store.point p) ch.override).getD (modeDemand env m p ch)

/-- In FIRE the fire demand is stored as the last fire demand at each resolution, whatever the override (R28). -/
def storeLastFire (env : Env) (p : Point) (ev : Ev) : Ev :=
  if ev.plant.mode = .fire then
    let ch := ev.plant.chan p
    ev.setChan p { ch with lastFire := some (fireDemand env p ch.normal).action }
  else ev

/-- Hands a point the demand `d` (R24): the record is replaced, the point marked, a source that becomes OVERRIDE
reported to the test unit (R131), and the sequencer given the demand. -/
def handOver (env : Env) (p : Point) (d : Demand) (ev : Ev) : Ev :=
  let ch := ev.plant.chan p
  let wasOverride := ch.resolved.map Demand.source = some .override
  let ev := (ev.setChan p { ch with resolved := some d }).mark p
  let ev := if d.source = .override ∧ ¬wasOverride then ev.report (.override p) else ev
  handDemand env p d ev

/-- Resolves a point (R24, R35, R37); with `force` the demand is handed whatever the point held (R39, R49). -/
def resolvePoint (env : Env) (force : Bool) (ev : Ev) (p : Point) : Ev :=
  if env.store.kind p = .unused then
    ev.setChan p { ev.plant.chan p with resolved := none }
  else
    let ev := storeLastFire env p ev
    let ch := ev.plant.chan p
    let d := resolution env ev.plant.mode p ch
    if force = true ∨ ch.resolved ≠ some d then handOver env p d ev else ev

/-- The points that a resolution of every point hands a demand: with `force` every FAN and DAMPER point, else those
whose demand differs from the one held (R24, R37). -/
def pointsToHand (env : Env) (force : Bool) (ev : Ev) : List Point :=
  allPoints.filter fun p =>
    env.store.kind p != .unused &&
      (force || (ev.plant.chan p).resolved != some (resolution env ev.plant.mode p (ev.plant.chan p)))

/-- Resolves points one after the other in the order given. -/
def resolveInOrder (env : Env) (force : Bool) (ps : List Point) (ev : Ev) : Ev :=
  ps.foldl (resolvePoint env force) ev

/-- A free order of points is drawn (R24). -/
def Ev.draw (ev : Ev) : Ev := ev.withPlant fun pl => { pl with draws := pl.draws + 1 }

/-- Stores every point's last fire demand in FIRE (R28). -/
def storeAllLastFire (env : Env) (ev : Ev) : Ev :=
  allPoints.foldl (fun ev p => if env.store.kind p = .unused then ev else storeLastFire env p ev) ev

/-- Resolves every point under the mode as it stands (R37, R40); the demands are handed in no stated order (R24). -/
def resolveAll (env : Env) (force : Bool) (ev : Ev) : Ev :=
  let ev := storeAllLastFire env ev
  resolveInOrder env force (inFreeOrder ev.plant.draws (pointsToHand env force ev)) ev.draw

end Sys2Proof.Machine
end

