-- ==== Sys2Proof/Machine/ProofTest.lean ====
section
/-! DEFINITION. The proof test unit (chapter 6). -/

namespace Sys2Proof.Machine

/-- The outcome counts as failed (Table 6-2). -/
def TestOutcome.failed : TestOutcome → Bool
  | .failStroke | .failConflict | .failDrift | .failPath | .failDrive | .failStart => true
  | _ => false

/-- Adds an entry to the result list (R121). -/
def TestRecord.add (p : Point) (o : TestOutcome) (t : TestRecord) : TestRecord :=
  { t with
    results := t.results ++ [{ point := p, outcome := o }]
    failed := t.failed + (if o.failed then 1 else 0) }

/-- The step and the home action are made absent. -/
def TestRecord.noStep (t : TestRecord) : TestRecord := { t with step := none, home := none }

/-- Sets, replaces or removes the test demand of a point, and has the point resolved (R36). -/
def setTestDemand (env : Env) (p : Point) (a : Option Action) (ev : Ev) : Ev :=
  resolvePoint env false (ev.setChan p { ev.plant.chan p with testDemand := a }) p

/-- The action opposite to a damper's home action (R125). -/
def Action.opposite : Action → Action
  | .toOpen => .toClose
  | _ => .toOpen

/-- The last step of the range has ended (R132): DONE, the mode NORMAL, every point resolved. -/
def testDone (env : Env) (ev : Ev) : Ev :=
  resolveAll env false ((ev.withTest fun t => { t.noStep with state := .done }).setMode .normal)

/-- What the beginning of a point's step calls for (R123). -/
inductive StepBegin where
  /-- No step: the entry, if any, is added and the next point's step begins. -/
  | skip (entry : Option TestOutcome)
  /-- The damper step of R125, with the home action. -/
  | damper (home : Action)
  /-- The fan step of R129, with the speed of its test demand. -/
  | fan (speed : Nat)
deriving DecidableEq, Repr

/-- What the step of a point begins with, from its kind, override entry, fault and normal demand (R123, R128). -/
def stepBegin (c : PointCfg) (ch : Channel) : StepBegin :=
  match ch.unit with
  | .unused => .skip none
  | .damper d =>
    if ch.override ≠ .auto then .skip (some .skipOverride)
    else if d.fault ≠ .none then .skip (some .skipFault)
    else .damper (ch.normal.inForm c)
  | .fan f =>
    if ch.override ≠ .auto then .skip (some .skipOverride)
    else if f.state = .fault then .skip (some .skipFault)
    else
      match ch.normal.inForm c with
      | .run _ => .skip (some (if f.state = .running then .pass else .failStart))
      | _ => .fan c.nOVS

/-- Begins the steps of the `n` points from `k` on: steps that end at once are chained (R122, R123). -/
def beginSteps (env : Env) : Nat → Nat → Ev → Ev
  | 0, _, ev => testDone env ev
  | n + 1, k, ev =>
    if h : k < 64 then
      let p : Point := ⟨k, h⟩
      let ev := ev.withTest fun t => { t with current := some p }
      match stepBegin (env.store.point p) (ev.plant.chan p) with
      | .skip none => beginSteps env n (k + 1) ev
      | .skip (some o) => beginSteps env n (k + 1) (ev.withTest (·.add p o))
      | .damper home =>
        setTestDemand env p (some home.opposite)
          (ev.withTest fun t => { t with step := some .damperOut, home := some home })
      | .fan speed =>
        setTestDemand env p (some (.run speed))
          (ev.withTest fun t => { t with step := some .fanStart, home := some .stop })
    else testDone env ev

/-- The points of the range behind a point. -/
def TestRecord.remaining (p : Point) (t : TestRecord) : Nat := t.first + t.count - (p.val + 1)

/-- A step ends with an entry: the test demand is made absent, the point resolved, and the next step begins
(R126, R127, R129 to R131). -/
def endStep (env : Env) (p : Point) (o : TestOutcome) (ev : Ev) : Ev :=
  let ev := setTestDemand env p none (ev.withTest fun t => (t.add p o).noStep)
  beginSteps env (ev.plant.test.remaining p) (p.val + 1) ev

/-- The outcome of a damper step in which a fault is recorded (R127). -/
def DamperFault.outcome : DamperFault → TestOutcome
  | .none | .stroke => .failStroke
  | .conflict => .failConflict
  | .drift => .failDrift

/-- A report of the damper under test (R126, R127). -/
def takeDamperReport (env : Env) (p : Point) (pos : Option DamperPos) (fault : DamperFault) (ev : Ev) : Ev :=
  match ev.plant.test.step, ev.plant.test.home with
  | some .damperOut, some home =>
    if fault ≠ .none then endStep env p fault.outcome ev
    else if pos = some home.opposite.damperEnd.proven then
      setTestDemand env p (some home) (ev.withTest fun t => { t with step := some .damperBack })
    else ev
  | some .damperBack, some home =>
    if fault ≠ .none then endStep env p fault.outcome ev
    else if pos = some home.damperEnd.proven then endStep env p .pass ev
    else ev
  | _, _ => ev

/-- A report of the fan under test (R130). -/
def takeFanReport (env : Env) (p : Point) (state : FanState) (fault : FanFault) (ev : Ev) : Ev :=
  match ev.plant.test.step with
  | some .fanStart =>
    match state with
    | .running =>
      setTestDemand env p (some .stop) (ev.withTest fun t => { t with step := some .fanStop })
    | .fault => endStep env p (if fault = .drive then .failDrive else .failStart) ev
    | _ => ev
  | some .fanStop => if state = .idle then endStep env p .pass ev else ev
  | _ => ev

/-- The scheduler's joining report (R129). -/
def takeJoinReport (env : Env) (r : JoinReport) (ev : Ev) : Ev :=
  if ev.plant.test.state = .running ∧ ev.plant.test.current = some r.point ∧
      ev.plant.test.step = some .fanStart then
    match r.reason with
    | some .path => endStep env r.point .failPath ev
    | some .drive => endStep env r.point .failDrive ev
    | _ => ev
  else ev

/-- Restore is complete when every FAN point stands in IDLE or FAULT (R44). -/
def restoreComplete (pl : Plant) : Bool :=
  allPoints.all fun p =>
    match pl.fan? p with
    | some f => f.state == .idle || f.state == .fault
    | none => true

/-- The check for restore completion (R44): in RESTORE, when it is complete, the mode becomes NORMAL and every point
is resolved. -/
def checkRestore (env : Env) (ev : Ev) : Ev :=
  if ev.plant.mode = .restore ∧ restoreComplete ev.plant = true then
    resolveAll env false (ev.setMode .normal)
  else ev

/-- The point is under test: the state is RUNNING and it is the current point (R124). -/
def Ev.underTest (p : Point) (ev : Ev) : Bool :=
  decide (ev.plant.test.state = .running ∧ ev.plant.test.current = some p)

/-- Takes up one report (R44, R124): a report about a point that is not under test is ignored by the test unit. -/
def takeReport (env : Env) (ev : Ev) : Report → Ev
  | .damper p pos fault => if ev.underTest p then takeDamperReport env p pos fault ev else ev
  | .fan p state fault =>
    let ev := checkRestore env ev
    if ev.underTest p then takeFanReport env p state fault ev else ev
  | .override p =>
    if ev.underTest p && ev.plant.test.step.isSome then endStep env p .skipOverride ev else ev
  | .restoreCheck => checkRestore env ev

/-- The test ends before its range is done (R133, R134): the point under test is ABORTED and its test demand absent.
The caller sets the mode and resolves. -/
def abortTest (ev : Ev) : Ev :=
  match ev.plant.test.current with
  | none => ev.withTest fun t => { t.noStep with state := .aborted }
  | some p =>
    (ev.setChan p { ev.plant.chan p with testDemand := none }).withTest fun t =>
      { (t.add p .aborted).noStep with state := .aborted }

end Sys2Proof.Machine
end

