-- ==== Sys2Proof/Machine/Event.lean ====
section
/-! DEFINITION. An event as a whole: its reports are taken up, one evaluation is made at its end (R104), joinings of
the fan under test are reported (R129), and its marks go to the change sets of all three ports (R145). -/

namespace Sys2Proof.Machine

/-- Takes up the reports made so far, then those that these bring, until none is left (R44, R124). -/
def settle (env : Env) : Nat → Ev → Ev
  | 0, ev => ev
  | n + 1, ev =>
    match ev.reports with
    | [] => ev
    | rs => settle env n (rs.foldl (takeReport env) { ev with reports := [] })

/-- Takes up every report of the event. -/
def settleAll (env : Env) (ev : Ev) : Ev := settle env Config.settleRounds ev

/-- The scheduler's report for a fan under test that joined the queue in this event: what the evaluation of the
joining event gave (R124, R129). -/
def joinReport (ev : Ev) (p : Point) : Option JoinReport :=
  match ev.plant.fan? p with
  | some f =>
    if f.state = .starting then some { point := p, reason := none }
    else if f.state = .queued then some { point := p, reason := f.wait }
    else none
  | none => none

/-- The end of an event: reports settled, then one evaluation if one is due (R104), then the joining reports. The
starts an evaluation makes bring reports that no rule gives a meaning to (a fan in STARTING completes no restore,
R44, and moves no step, R130), so they are dropped. -/
def finishEvent (env : Env) (ev : Ev) : Ev :=
  let ev := settleAll env ev
  let ev := if ev.evalDue then evaluate env ev else ev
  ev.withPlant fun pl => { pl with joinReports := pl.joinReports ++ ev.joined.reverse.filterMap (joinReport ev) }

/-- What the machine's plant reads. -/
def State.env (s : State) : Env := { store := s.store, alarms := s.alarms }

/-- Adds members to a change set held as membership (R145). -/
def addMembers {n : Nat} (ms : List (Fin n)) (v : Vector Bool n) : Vector Bool n :=
  ms.foldl (fun v (m : Fin n) => v.set m true) v

/-- Marks points and zones in one port's change sets. -/
def PortRec.markAll (ps : List Point) (zs : List Zone) (r : PortRec) : PortRec :=
  { r with points := addMembers ps r.points, zones := addMembers zs r.zones }

/-- Marks points and zones in the change sets of all three ports (R145). -/
def Ports.markAll (ps : List Point) (zs : List Zone) (r : Ports) : Ports :=
  { a := r.a.markAll ps zs, f := r.f.markAll ps zs, b := r.b.markAll ps zs }

/-- Runs an event of the plant to its end. -/
def State.runEvent (g : Env → Ev → Ev) (s : State) : State :=
  let ev := finishEvent s.env (g s.env (.start s.plant))
  { s with plant := ev.plant, ports := s.ports.markAll ev.marks [] }

/-- The mode that a report of the alarm list gives (Table 2-6, R41, R42). -/
def modeAfterReport (m : Mode) (listEmpty : Bool) : Mode :=
  if listEmpty then (if m = .fire then .restore else m) else .fire

/-- The alarm list reports a change (R17): the mode is set from the list first and every point then resolved once
(R38); a test that an arrival ends is aborted (R134); entry to RESTORE checks for completion once every demand has
been handed (R44). -/
def listReport (env : Env) (ev : Ev) : Ev :=
  let old := ev.plant.mode
  let new := modeAfterReport old env.alarms.isEmpty
  let ev := if old = .test ∧ new = .fire then abortTest ev else ev
  let ev := resolveAll env false (ev.setMode new)
  if old = .fire ∧ new = .restore then ev.report .restoreCheck else ev

end Sys2Proof.Machine
end

