-- ==== Sys2Proof/Machine/AlarmList.lean ====
section
/-! DEFINITION. The zone input unit and the alarm list (chapter 1). -/

namespace Sys2Proof.Machine

/-- Activity of a zone line (Table 1-2). -/
def activityOf (contact : Contact) (filtered : Level) : Bool :=
  match contact with
  | .normallyOpen => filtered == .low
  | .normallyClosed => filtered == .high

/-- The zone's line record. -/
def State.zone (s : State) (z : Zone) : ZoneLine := s.zones[z]

/-- Replaces a zone's line record. -/
def State.setZone (z : Zone) (l : ZoneLine) (s : State) : State := { s with zones := s.zones.set z l }

/-- The zone's activity: its filtered level read through its stored contact (R1). -/
def State.active (s : State) (z : Zone) : Bool := activityOf (s.store.zone z).contact (s.zone z).filter.filtered

/-- The zone is in the list. -/
def inList (z : Zone) (l : List AlarmEntry) : Bool := l.any fun e => e.zone == z

/-- The zone's list position, if it is in the list. -/
def listPosition (z : Zone) (l : List AlarmEntry) : Option Nat := l.findIdx? fun e => e.zone == z

/-- The zone's entry, if it is in the list. -/
def entryOf (z : Zone) (l : List AlarmEntry) : Option AlarmEntry := l.find? fun e => e.zone == z

/-- Sets the latched flag of a zone's entry in its place (R10). -/
def latchEntry (z : Zone) (l : List AlarmEntry) : List AlarmEntry :=
  l.map fun e => if e.zone = z then { e with latched := true } else e

/-- Removes a zone's entry; the entries behind it move forward (R9). -/
def removeZone (z : Zone) (l : List AlarmEntry) : List AlarmEntry := l.filter fun e => e.zone != z

/-- A line arrival (R11). -/
def lineArrival (mode : ZoneMode) (z : Zone) (l : List AlarmEntry) : List AlarmEntry :=
  if inList z l then (if mode = .latch then latchEntry z l else l)
  else l ++ [{ zone := z, origin := .line, latched := mode == .latch }]

/-- A line clear (R12): it removes the zone's entry unless that is latched. -/
def lineClear (z : Zone) (l : List AlarmEntry) : List AlarmEntry := l.filter fun e => e.zone != z || e.latched

/-- A port arrival (R13). -/
def portArrival (z : Zone) (l : List AlarmEntry) : List AlarmEntry :=
  if inList z l then latchEntry z l else l ++ [{ zone := z, origin := .port, latched := true }]

/-- A firefighter zone order (R14): the zone's entry, kept in its origin if there is one, stands latched at position
0, and the others keep their relative order behind it. -/
def firefighterZone (z : Zone) (l : List AlarmEntry) : List AlarmEntry :=
  match entryOf z l with
  | some e => { e with latched := true } :: removeZone z l
  | none => { zone := z, origin := .firefighter, latched := true } :: l

/-- The second step of an alarm reset for one zone (R16): a zone that is not isolated, whose mode is LATCH and whose
activity is active makes a line arrival. -/
def realarm (s : State) (l : List AlarmEntry) (z : Zone) : List AlarmEntry :=
  if !(s.zone z).isolated && (s.store.zone z).mode == .latch && s.active z then lineArrival .latch z l else l

/-- An alarm reset: both steps (R16). -/
def alarmReset (s : State) : List AlarmEntry := allZones.foldl (realarm s) (s.alarms.filter fun e => !e.latched)

/-- The zones that an alarm reset removes from the list in its first step (R16): each leaves the list, whether or not
the second step brings it back. -/
def removedByReset (s : State) : List Zone := (s.alarms.filter AlarmEntry.latched).map AlarmEntry.zone

/-- The rebuild at device reset for one zone (R20). -/
def rebuildOne (s : State) (l : List AlarmEntry) (z : Zone) : List AlarmEntry :=
  if s.active z then l ++ [{ zone := z, origin := .line, latched := (s.store.zone z).mode == .latch }] else l

/-- The alarm list rebuilt at device reset (R20). -/
def rebuiltList (s : State) : List AlarmEntry := allZones.foldl (rebuildOne s) []

/-- The zone is marked for the change from `s` to `t` (R18): its activity, isolation, membership or list position
differs at the end of the event from the start. A zone that leaves the list and joins it again within one event, as an
alarm reset alone can bring, is marked by the order (`removedByReset`). -/
def zoneChanged (s t : State) (z : Zone) : Bool :=
  s.active z != t.active z || (s.zone z).isolated != (t.zone z).isolated ||
    listPosition z s.alarms != listPosition z t.alarms

/-- The zones marked for the change from `s` to `t`. -/
def changedZones (s t : State) : List Zone := allZones.filter (zoneChanged s t)

/-- The end of an event at the zones: `t` is `s` with the event's whole effect on the lines, the store and the list.
The changed zones are marked (R18), and a changed list is reported to the resolver once (R17). -/
def zonesFollow (s t : State) : State :=
  let t' := { t with ports := t.ports.markAll [] (changedZones s t) }
  if s.alarms = t.alarms then t' else t'.runEvent listReport

/-- The list after the activity of a zone has changed from `was` (R3, R5): an arrival or a clear, unless the zone is
isolated. -/
def activityEvent (was : Bool) (z : Zone) (s : State) : State :=
  if (s.zone z).isolated || was == s.active z then s
  else if s.active z then { s with alarms := lineArrival (s.store.zone z).mode z s.alarms }
  else { s with alarms := lineClear z s.alarms }

/-- The zone's filter becomes `f`: the line event that follows, and what the event brings (R2, R3). -/
def zoneFilterTakes (z : Zone) (l : ZoneLine) (s : State) : State :=
  zonesFollow s (activityEvent (s.active z) z (s.setZone z l))

/-- A change of a zone's raw level (R2); with tZF 0 the filter takes it within the event (R3). While device reset is
held the line moves and nothing else does (R151). -/
def zoneRawChange (z : Zone) (level : Level) (s : State) : State :=
  let l := s.zone z
  if l.raw = level then s
  else if s.held then s.setZone z { l with raw := level }
  else
    zoneFilterTakes z { l with raw := level, filter := l.filter.rawChange (s.store.zone z).tZF level } s

/-- A zone's filter timer runs out in PENDING (R3). -/
def zoneTimerOut (z : Zone) (s : State) : State :=
  let l := s.zone z
  if l.filter.timer.isRunning then zoneFilterTakes z { l with filter := l.filter.expire l.raw } s else s

end Sys2Proof.Machine
end

