-- ==== Sys2Proof/Decode.lean ====
section
/-! DEFINITION. The order codes of Table 8-2, and decodeTableWord: no row of spec/opcode_table.json gives bits. -/

namespace Sys2Proof

/-- The order that an order code names, none for a code that does not appear in Table 8-2 (R152). -/
def orderKind (code : Byte) : Option OrderKind :=
  match code.toNat with
  | 0x10 => some .qsys
  | 0x11 => some .qalm
  | 0x12 => some .qzon
  | 0x13 => some .qpnt
  | 0x14 => some .nxch
  | 0x20 => some .zalm
  | 0x21 => some .arst
  | 0x22 => some .ziso
  | 0x23 => some .zrin
  | 0x30 => some .ovrd
  | 0x31 => some .oval
  | 0x32 => some .fzon
  | 0x33 => some .eqrs
  | 0x40 => some .ndem
  | 0x41 => some .ptst
  | 0x42 => some .pthl
  | 0x43 => some .ptrd
  | 0x44 => some .cmen
  | 0x45 => some .cmlv
  | 0x50 => some .wpcf
  | 0x51 => some .wzcf
  | 0x52 => some .wscn
  | 0x53 => some .wdcf
  | 0x58 => some .rpcf
  | 0x59 => some .rzcf
  | 0x5A => some .rscn
  | 0x5B => some .rdcf
  | _ => none

/-- The order code of an order (Table 8-2). -/
def OrderKind.code : OrderKind → Byte
  | .qsys => 0x10#8
  | .qalm => 0x11#8
  | .qzon => 0x12#8
  | .qpnt => 0x13#8
  | .nxch => 0x14#8
  | .zalm => 0x20#8
  | .arst => 0x21#8
  | .ziso => 0x22#8
  | .zrin => 0x23#8
  | .ovrd => 0x30#8
  | .oval => 0x31#8
  | .fzon => 0x32#8
  | .eqrs => 0x33#8
  | .ndem => 0x40#8
  | .ptst => 0x41#8
  | .pthl => 0x42#8
  | .ptrd => 0x43#8
  | .cmen => 0x44#8
  | .cmlv => 0x45#8
  | .wpcf => 0x50#8
  | .wzcf => 0x51#8
  | .wscn => 0x52#8
  | .wdcf => 0x53#8
  | .rpcf => 0x58#8
  | .rzcf => 0x59#8
  | .rscn => 0x5A#8
  | .rdcf => 0x5B#8

/-- The command that a word spells by the table's bits. Every row of spec/opcode_table.json has an empty "fields"
and no "fixed", so no word spells a command (assumption 11). The orders' own four-byte form is read at the ports
(`orderKind`), not here. -/
def decodeTableWord (_nbits _w : Nat) : Option Instr := none

end Sys2Proof
end

