-- ==== Sys2Proof/Machine/Operands.lean ====
section
/-! DEFINITION. The operands of the orders: numbers, action bytes, the codes of Table 8-4, the fields of Tables 9-1
and 9-2 with their ranges (R154, R155, R166). A reader answers none for a value outside its range. -/

namespace Sys2Proof.Machine

/-! ## Numbers -/

/-- A point operand, 0 to 63. -/
def pointOf (b : Byte) : Option Point := if h : b.toNat < 64 then some ⟨b.toNat, h⟩ else none

/-- A zone operand, 0 to 31. -/
def zoneOf (b : Byte) : Option Zone := if h : b.toNat < 32 then some ⟨b.toNat, h⟩ else none

/-- The value FFh of a result byte: none (Table 8-1). -/
def noneByte : Byte := 0xFF#8

/-- A point or none. -/
def pointByte : Option Point → Byte
  | some p => byte p.val
  | none => noneByte

/-- A zone or none. -/
def zoneByte : Option Zone → Byte
  | some z => byte z.val
  | none => noneByte

/-- The low eight bits of a two-byte number (Table 8-1). -/
def lowByte (n : Nat) : Byte := byte (n % 256)

/-- The high four bits of a two-byte number (Table 8-1). -/
def highByte (n : Nat) : Byte := byte (n / 256)

/-! ## The action byte (R155) -/

/-- The action byte of an operand: NONE is `some none`; an undefined value is `none`. -/
def actionOf (b : Byte) : Option (Option Action) :=
  let n := b.toNat
  if n = 0 then some none
  else if n = 1 then some (some .toOpen)
  else if n = 2 then some (some .toClose)
  else if n = 3 then some (some .stop)
  else if 10 ≤ n ∧ n ≤ 110 then some (some (.run (n - 10)))
  else none

/-- The action byte of a result. -/
def actionByte : Action → Byte
  | .toOpen => 1#8
  | .toClose => 2#8
  | .stop => 3#8
  | .run s => byte (s + 10)

/-- The action byte of a scenario entry: 0 for NONE. -/
def entryByte : Option Action → Byte
  | none => 0#8
  | some a => actionByte a

/-! ## The codes of Table 8-4 -/

def Mode.code : Mode → Nat
  | .normal => 0
  | .fire => 1
  | .restore => 2
  | .test => 3
  | .commission => 4

def SupplyState.code : SupplyState → Nat
  | .good => 0
  | .failed => 1
  | .settling => 2

def Kind.code : Kind → Nat
  | .unused => 0
  | .fan => 1
  | .damper => 2

def Override.code : Override → Nat
  | .auto => 0
  | .on => 1
  | .off => 2

/-- The override value of an OVRD operand. -/
def overrideOf (b : Byte) : Option Override :=
  match b.toNat with
  | 0 => some .auto
  | 1 => some .on
  | 2 => some .off
  | _ => none

def DamperPos.code : DamperPos → Nat
  | .unproven => 0
  | .opening => 1
  | .opened => 2
  | .closing => 3
  | .closed => 4
  | .waitFan => 5

def FanState.code : FanState → Nat
  | .idle => 0
  | .queued => 1
  | .starting => 2
  | .running => 3
  | .lost => 4
  | .runDown => 5
  | .fault => 6

def DamperFault.code : DamperFault → Nat
  | .none => 0
  | .stroke => 1
  | .conflict => 2
  | .drift => 3

def FanFault.code : FanFault → Nat
  | .none => 0
  | .failStart => 1
  | .drive => 2

def Source.code : Source → Nat
  | .override => 0
  | .fire => 1
  | .unassigned => 2
  | .test => 3
  | .normal => 4
  | .restore => 5

def WaitReason.code : WaitReason → Nat
  | .path => 1
  | .drive => 2
  | .allowance => 3
  | .spacing => 4
  | .supply => 5
  | .order => 6

/-- The wait reason code, 0 while it is absent. -/
def waitCode : Option WaitReason → Nat
  | none => 0
  | some r => r.code

def Origin.code : Origin → Nat
  | .line => 0
  | .port => 1
  | .firefighter => 2

def TestState.code : TestState → Nat
  | .idle => 0
  | .running => 1
  | .done => 2
  | .aborted => 3

def TestOutcome.code : TestOutcome → Nat
  | .pass => 0
  | .skipOverride => 1
  | .skipFault => 2
  | .failStroke => 3
  | .failConflict => 4
  | .failDrift => 5
  | .failPath => 6
  | .failDrive => 7
  | .failStart => 8
  | .aborted => 9

/-! ## Fields of the store (Tables 9-1 and 9-2) -/

def Kind.ofCode : Nat → Option Kind
  | 0 => some .unused
  | 1 => some .fan
  | 2 => some .damper
  | _ => none

def Unassigned.code : Unassigned → Nat
  | .normal => 0
  | .active => 1
  | .rest => 2

def Unassigned.ofCode : Nat → Option Unassigned
  | 0 => some .normal
  | 1 => some .active
  | 2 => some .rest
  | _ => none

def DriveSense.code : DriveSense → Nat
  | .energiseOpen => 0
  | .energiseClose => 1

def DriveSense.ofCode : Nat → Option DriveSense
  | 0 => some .energiseOpen
  | 1 => some .energiseClose
  | _ => none

def Feedback.code : Feedback → Nat
  | .twoLimit => 0
  | .openLimit => 1
  | .timed => 2

def Feedback.ofCode : Nat → Option Feedback
  | 0 => some .twoLimit
  | 1 => some .openLimit
  | 2 => some .timed
  | _ => none

def SpeedControl.code : SpeedControl → Nat
  | .variable => 0
  | .fixed => 1

def SpeedControl.ofCode : Nat → Option SpeedControl
  | 0 => some .variable
  | 1 => some .fixed
  | _ => none

def DriveContact.code : DriveContact → Nat
  | .none => 0
  | .opensOnFault => 1
  | .closesOnFault => 2

def DriveContact.ofCode : Nat → Option DriveContact
  | 0 => some .none
  | 1 => some .opensOnFault
  | 2 => some .closesOnFault
  | _ => Option.none

def ZoneMode.code : ZoneMode → Nat
  | .latch => 0
  | .follow => 1

def ZoneMode.ofCode : Nat → Option ZoneMode
  | 0 => some .latch
  | 1 => some .follow
  | _ => none

def Contact.code : Contact → Nat
  | .normallyOpen => 0
  | .normallyClosed => 1

def Contact.ofCode : Nat → Option Contact
  | 0 => some .normallyOpen
  | 1 => some .normallyClosed
  | _ => none

/-- A path entry: point 0 to 63, or 64 for absent. -/
def pathEntryOf (n : Nat) : Option (Option Point) :=
  if h : n < 64 then some (some ⟨n, h⟩) else if n = 64 then some none else none

/-- The stored value of a path entry. -/
def pathEntryCode : Option Point → Nat
  | some p => p.val
  | none => 64

/-- A number within a range, both ends in it. -/
def within (lo hi n : Nat) : Option Nat := if lo ≤ n ∧ n ≤ hi then some n else none

/-- The point record with one field replaced, none if the field or the value is not in Table 9-1. -/
def PointCfg.setField (c : PointCfg) (field v : Nat) : Option PointCfg :=
  match field with
  | 0 => (Kind.ofCode v).map fun x => { c with kind := x }
  | 1 => (Unassigned.ofCode v).map fun x => { c with unassigned := x }
  | 2 => (DriveSense.ofCode v).map fun x => { c with driveSense := x }
  | 3 => (Feedback.ofCode v).map fun x => { c with feedback := x }
  | 4 => (SpeedControl.ofCode v).map fun x => { c with speedControl := x }
  | 5 => (DriveContact.ofCode v).map fun x => { c with driveContact := x }
  | 6 => (pathEntryOf v).map fun x => { c with path0 := x }
  | 7 => (pathEntryOf v).map fun x => { c with path1 := x }
  | 8 => (pathEntryOf v).map fun x => { c with path2 := x }
  | 9 => (pathEntryOf v).map fun x => { c with path3 := x }
  | 10 => (within 1 255 v).map fun x => { c with tSTK := x }
  | 11 => (within 0 255 v).map fun x => { c with tRD := x }
  | 12 => (within 5 120 v).map fun x => { c with tPL := x }
  | 13 => (within 2 64 v).map fun x => { c with nGATE := x }
  | 14 => (within 1 4 v).map fun x => { c with nK := x }
  | 15 => (within 5 50 v).map fun x => { c with nTOL := x }
  | 16 => (within 5 180 v).map fun x => { c with nRATE := x }
  | 17 => (within 1 8 v).map fun x => { c with nPPR := x }
  | 18 => (within 10 50 v).map fun x => { c with nMIN := x }
  | 19 => (within 10 100 v).map fun x => { c with nOVS := x }
  | 20 => (within 1 63 v).map fun x => { c with nUNIT := x }
  | 21 => (within 0 7 v).map fun x => { c with nSTG := x }
  | _ => none

/-- The coded value of a field of a point record, none if the field is not in Table 9-1. -/
def PointCfg.getField (c : PointCfg) (field : Nat) : Option Nat :=
  match field with
  | 0 => some c.kind.code
  | 1 => some c.unassigned.code
  | 2 => some c.driveSense.code
  | 3 => some c.feedback.code
  | 4 => some c.speedControl.code
  | 5 => some c.driveContact.code
  | 6 => some (pathEntryCode c.path0)
  | 7 => some (pathEntryCode c.path1)
  | 8 => some (pathEntryCode c.path2)
  | 9 => some (pathEntryCode c.path3)
  | 10 => some c.tSTK
  | 11 => some c.tRD
  | 12 => some c.tPL
  | 13 => some c.nGATE
  | 14 => some c.nK
  | 15 => some c.nTOL
  | 16 => some c.nRATE
  | 17 => some c.nPPR
  | 18 => some c.nMIN
  | 19 => some c.nOVS
  | 20 => some c.nUNIT
  | 21 => some c.nSTG
  | _ => none

/-- The zone record with one field replaced (Table 9-2). -/
def ZoneCfg.setField (c : ZoneCfg) (field v : Nat) : Option ZoneCfg :=
  match field with
  | 0 => (ZoneMode.ofCode v).map fun x => { c with mode := x }
  | 1 => (Contact.ofCode v).map fun x => { c with contact := x }
  | 2 => (within 0 15 v).map fun x => { c with tZF := x }
  | _ => none

/-- The coded value of a field of a zone record. -/
def ZoneCfg.getField (c : ZoneCfg) (field : Nat) : Option Nat :=
  match field with
  | 0 => some c.mode.code
  | 1 => some c.contact.code
  | 2 => some c.tZF
  | _ => none

/-- The device settings with one replaced (Table 9-2). -/
def DeviceCfg.setField (c : DeviceCfg) (field v : Nat) : Option DeviceCfg :=
  match field with
  | 0 => (within 1 63 v).map fun x => { c with nALW := x }
  | 1 => (within 0 31 v).map fun x => { c with nSPC := x }
  | 2 => (within 1 255 v).map fun x => { c with tSET := x }
  | 3 => (within 0 15 v).map fun x => { c with tFBF := x }
  | _ => none

/-- The value of a device setting. -/
def DeviceCfg.getField (c : DeviceCfg) (field : Nat) : Option Nat :=
  match field with
  | 0 => some c.nALW
  | 1 => some c.nSPC
  | 2 => some c.tSET
  | 3 => some c.tFBF
  | _ => none

/-! ## Port rights (Table 8-2) -/

/-- The ports from which an order is accepted. -/
def portAllowed : OrderKind → PortId → Bool
  | .qsys, _ | .qalm, _ | .qzon, _ | .qpnt, _ | .nxch, _ => true
  | .zalm, p | .arst, p | .ziso, p | .zrin, p => p == .a
  | .ovrd, p | .oval, p | .fzon, p => p == .f
  | .eqrs, p => p == .f || p == .b
  | .ndem, p | .ptst, p | .pthl, p | .ptrd, p | .cmen, p | .cmlv, p => p == .b
  | .wpcf, p | .wzcf, p | .wscn, p | .wdcf, p => p == .b
  | .rpcf, p | .rzcf, p | .rscn, p | .rdcf, p => p == .b

end Sys2Proof.Machine
end

