-- ==== Sys2Proof/Machine/StoreWrites.lean ====
section
/-! DEFINITION. The configuration store's writes: the new contents, and what a completed write does (R39, R73, R102,
R167 to R169). -/

namespace Sys2Proof.Machine

/-- The store with one field or entry replaced (R167). A field or value outside Tables 9-1 and 9-2 is refused before
a write begins (R164), so it changes nothing here. -/
def WriteTarget.apply (st : Store) : WriteTarget → Store
  | .point p field v =>
    match (st.point p).setField field v with
    | some c => { st with points := st.points.set p c }
    | none => st
  | .zone z field v =>
    match (st.zone z).setField field v with
    | some c => { st with zones := st.zones.set z c }
    | none => st
  | .scenario z p e => { st with scenario := st.scenario.set z ((st.scenario[z]).set p e) }
  | .device field v =>
    match st.device.setField field v with
    | some c => { st with device := c }
    | none => st

/-- A point's sequencer record after reset or re-initialisation, by its kind (R72, R101). -/
def Equipment.afterReset (c : PointCfg) (ch : Channel) : Equipment :=
  match c.kind with
  | .unused => .unused
  | .damper => .damper (.afterReset ch.fba ch.fbb)
  | .fan => .fan (.afterReset c ch.fbb)

/-- A channel at re-initialisation (R32, R39): the record of the new kind, CMD de-energised, no last fire demand, and
the override entry AUTO if the new kind is UNUSED. The resolved demand stands until the resolution that follows. -/
def Channel.reinitialised (c : PointCfg) (ch : Channel) : Channel :=
  { ch with
    unit := .afterReset c ch
    cmd := false
    lastFire := none
    testDemand := none
    override := if c.kind = .unused then .auto else ch.override }

/-- What the leaving of a fan's old record brings at the scheduler (R102): its place in the queue, or its units. -/
def oldFanLeaves (units : Nat) (p : Point) (old : Equipment) (ev : Ev) : Ev :=
  match old with
  | .fan f =>
    if f.state = .queued then (ev.withSched (·.leave p)).evaluateIf true
    else if f.state = .starting then ev.unitsReturned units
    else ev
  | _ => ev

/-- What a re-initialisation brings through the damper side (R73): a damper that was OPEN, or that the point has
newly become, counts as leaving OPEN; the end of a damper record brings an evaluation. -/
def damperSideFollows (env : Env) (p : Point) (old new : Equipment) (ev : Ev) : Ev :=
  match old, new with
  | .damper o, .damper _ => if o.pos = .opened then (tripPathFans env p ev).evaluateIf true else ev
  | _, .damper _ => (tripPathFans env p ev).evaluateIf true
  | .damper _, _ => ev.evaluateIf true
  | _, _ => ev

/-- The record is a fan's. -/
def Equipment.isFan : Equipment → Bool
  | .fan _ => true
  | _ => false

/-- Re-initialisation of a point after a completed point-field write (R39, R73, R102). `env` has the new store,
`units` is the fan's nUNIT before the write. The check for restore completion follows the hand-over (R44). -/
def reinitialise (units : Nat) (p : Point) (env : Env) (ev : Ev) : Ev :=
  let ch := ev.plant.chan p
  let ch' := ch.reinitialised (env.store.point p)
  let ev := (ev.setChan p ch').mark p
  let ev := oldFanLeaves units p ch.unit ev
  let ev := damperSideFollows env p ch.unit ch'.unit ev
  let fanSide := ch.unit.isFan || ch'.unit.isFan
  let ev := if fanSide then releaseWaiting env ev else ev
  let ev := resolvePoint env true ev p
  if fanSide then ev.report .restoreCheck else ev

/-- What the completion of a write does to the block that uses the field, `s` being the machine before it and `t`
the machine with the new store (R169). -/
def writeTakesEffect (tgt : WriteTarget) (s t : State) : State :=
  match tgt with
  | .point p _ _ => t.runEvent (reinitialise (s.store.point p).nUNIT p)
  | .zone z _ _ => zonesFollow s (activityEvent (s.active z) z t)
  | .scenario _ _ _ => t
  | .device field v => if field = 0 then t.runEvent fun _ ev => ev.newLimit v else t

/-- A store write completes: the new value and its effect (R167, R169). -/
def completeWrite (tgt : WriteTarget) (s : State) : State :=
  writeTakesEffect tgt s { s with store := tgt.apply s.store, write := none }

/-- A device reset ends a write in progress (R168): the field holds its old or its new value, by a free choice. -/
def endWriteByReset (s : State) : State :=
  match s.write with
  | none => s
  | some w =>
    { s with
      store := if Config.freeBit s.plant.draws then w.target.apply s.store else s.store
      write := none
      plant := { s.plant with draws := s.plant.draws + 1 }
      ports := { s.ports with b := { s.ports.b with inProgress := none } } }

end Sys2Proof.Machine
end

