-- ==== Sys2Proof/Machine/Orders.lean ====
section
/-! DEFINITION. The orders of chapter 8: one definition per order, over the machine as it stands when the port takes
it. The code and the port rights are checked before (Ports.lean); here come the operands (RANGE), the mode (MODE) and
the state of the thing named (ISOLATED or STATE), in that order (R154), then the effect and the reply. An answer with
no reply is a store write accepted: it completes later (R142, R164). -/

namespace Sys2Proof.Machine

/-- The machine after an order and its reply, or no reply yet. -/
abbrev Answer := State × Option Reply

/-- A refusal: nothing changes and the operands are echoed (R153). -/
def refuse (c : ReplyCode) (o : Order) (s : State) : Answer :=
  (s, some { code := c, r1 := o.b1, r2 := o.b2, r3 := o.b3 })

/-- DONE with the operands echoed (R153). -/
def done (o : Order) (s : State) : Answer :=
  (s, some { code := .done, r1 := o.b1, r2 := o.b2, r3 := o.b3 })

/-- DONE with results in place of the echo (R153). -/
def result (r1 r2 r3 : Byte) (s : State) : Answer := (s, some { code := .done, r1 := r1, r2 := r2, r3 := r3 })

/-! ## Queries -/

/-- QSYS (R156). -/
def orderQsys (_i : PortId) (o : Order) (s : State) : Answer :=
  match o.b1.toNat with
  | 0 =>
    result (byte (s.plant.mode.code + 16 * s.plant.supply.state.code)) (byte s.alarms.length)
      (zoneByte (s.alarms.head?.map AlarmEntry.zone)) s
  | 1 => result (byte s.plant.sched.inUse) (byte s.plant.sched.limit) (byte s.plant.sched.queue.length) s
  | 2 => result (byte s.plant.test.state.code) (pointByte s.plant.test.current) (byte s.plant.test.failed) s
  | _ => refuse .range o s

/-- QALM (R159). -/
def orderQalm (_i : PortId) (o : Order) (s : State) : Answer :=
  if 31 < o.b1.toNat then refuse .range o s
  else
    match s.alarms[o.b1.toNat]? with
    | some e =>
      result (byte e.zone.val) (byte (e.origin.code + if e.latched then 0x10 else 0)) (byte s.alarms.length) s
    | none => result noneByte noneByte (byte s.alarms.length) s

/-- QZON (R159). -/
def orderQzon (_i : PortId) (o : Order) (s : State) : Answer :=
  match zoneOf o.b1 with
  | none => refuse .range o s
  | some z =>
    let e := entryOf z s.alarms
    let bits :=
      (if s.active z then 0x01 else 0) + (if e.isSome then 0x02 else 0) +
        (if e.any AlarmEntry.latched then 0x04 else 0) + (if (s.zone z).isolated then 0x08 else 0) +
        (if (s.store.zone z).mode = .follow then 0x10 else 0)
    result (byte bits)
      (match listPosition z s.alarms with
        | some k => byte k
        | none => noneByte)
      0#8 s

/-- QPNT page 0 (R157): kind and override, state, fault and flag. -/
def pointPage0 (c : PointCfg) (ch : Channel) (s : State) : Answer :=
  let b1 := byte (c.kind.code + 16 * ch.override.code)
  match ch.unit with
  | .unused => result b1 noneByte 0#8 s
  | .damper d => result b1 (byte d.pos.code) (byte (d.fault.code + 16 * if d.timed then 1 else 0)) s
  | .fan f => result b1 (byte f.state.code) (byte (f.fault.code + 16 * if f.driveAlarm then 1 else 0)) s

/-- QPNT page 1 (R157): the resolved demand. -/
def pointPage1 (ch : Channel) (s : State) : Answer :=
  match ch.resolved with
  | none => result 0#8 noneByte noneByte s
  | some d => result (actionByte d.action) (byte d.source.code) (zoneByte d.fireZone) s

/-- QPNT page 2 (R158): the wait reason, and the last count or the last E by half. -/
def pointPage2 (half : Nat) (ch : Channel) (s : State) : Answer :=
  match ch.unit with
  | .fan f =>
    let n := if half = 0 then f.proof.lastCount else f.proof.lastE
    result (byte (waitCode f.wait)) (lowByte n) (highByte n) s
  | _ => result 0#8 0#8 0#8 s

/-- QPNT (R157, R158). -/
def orderQpnt (_i : PortId) (o : Order) (s : State) : Answer :=
  match pointOf o.b1 with
  | none => refuse .range o s
  | some p =>
    match o.b2.toNat with
    | 0 => pointPage0 (s.store.point p) (s.plant.chan p) s
    | 1 => pointPage1 (s.plant.chan p) s
    | 2 => if 1 < o.b3.toNat then refuse .range o s else pointPage2 o.b3.toNat (s.plant.chan p) s
    | _ => refuse .range o s

/-- The lowest-numbered member of a change set (R146). -/
def lowestMember {n : Nat} (v : Vector Bool n) : Option (Fin n) := (List.finRange n).find? fun (i : Fin n) => v[i]

/-- The number of members of a change set. -/
def countMembers {n : Nat} (v : Vector Bool n) : Nat := ((List.finRange n).filter fun (i : Fin n) => v[i]).length

/-- Takes the lowest member out of a change set, with the number left (R146, R160). -/
def takeLowest {n : Nat} (v : Vector Bool n) : Vector Bool n × Byte × Byte :=
  match lowestMember v with
  | some i =>
    let v' := v.set i false
    (v', byte i.val, byte (countMembers v'))
  | none => (v, noneByte, 0#8)

/-- NXCH (R146, R160). -/
def orderNxch (i : PortId) (o : Order) (s : State) : Answer :=
  let r := s.port i
  match o.b1.toNat with
  | 0 =>
    let (v, m, n) := takeLowest r.points
    result 0#8 m n (s.setPort i { r with points := v })
  | 1 =>
    let (v, m, n) := takeLowest r.zones
    result 1#8 m n (s.setPort i { r with zones := v })
  | _ => refuse .range o s

/-! ## The alarm port's orders (R161) -/

/-- The alarm list becomes `l`: what the event brings (R17, R18). -/
def listBecomes (l : List AlarmEntry) (s : State) : State := zonesFollow s { s with alarms := l }

/-- ZALM (R13, R161). -/
def orderZalm (_i : PortId) (o : Order) (s : State) : Answer :=
  match zoneOf o.b1 with
  | none => refuse .range o s
  | some z =>
    if (s.zone z).isolated then refuse .isolated o s
    else done o (listBecomes (portArrival z s.alarms) s)

/-- ARST (R16, R161). Every zone that its first step removes is marked as having left the list (R18), also one that the
second step appends again at its old position. -/
def orderArst (_i : PortId) (o : Order) (s : State) : Answer :=
  done o (listBecomes (alarmReset s) { s with ports := s.ports.markAll [] (removedByReset s) })

/-- ZISO (R6, R161). -/
def orderZiso (_i : PortId) (o : Order) (s : State) : Answer :=
  match zoneOf o.b1 with
  | none => refuse .range o s
  | some z =>
    if (s.zone z).isolated then refuse .state o s
    else
      done o
        (zonesFollow s
          { s.setZone z { s.zone z with isolated := true } with alarms := removeZone z s.alarms })

/-- ZRIN (R7, R161). -/
def orderZrin (_i : PortId) (o : Order) (s : State) : Answer :=
  match zoneOf o.b1 with
  | none => refuse .range o s
  | some z =>
    if (s.zone z).isolated then
      done o
        (zonesFollow s
          { s.setZone z { s.zone z with isolated := false } with
            alarms := if s.active z then lineArrival (s.store.zone z).mode z s.alarms else s.alarms })
    else refuse .state o s

/-! ## The firefighter port's orders (R162) -/

/-- Sets a point's override entry. -/
def setOverride (p : Point) (v : Override) (ev : Ev) : Ev :=
  ev.setChan p { ev.plant.chan p with override := v }

/-- OVRD (R30, R162). -/
def orderOvrd (_i : PortId) (o : Order) (s : State) : Answer :=
  match pointOf o.b1, overrideOf o.b2 with
  | some p, some v =>
    if v ≠ .auto ∧ s.store.kind p = .unused then refuse .state o s
    else if (s.plant.chan p).override = v then done o s
    else done o (s.runEvent fun env ev => resolvePoint env false (setOverride p v ev) p)
  | _, _ => refuse .range o s

/-- Resolves a point released by OVAL and takes up what it brings before the next (R31, R44): a fan that so reaches
IDLE may complete a restore before the other points are resolved. -/
def resolveReleased (env : Env) (ev : Ev) (p : Point) : Ev := settleAll env (resolvePoint env false ev p)

/-- OVAL (R31): every entry becomes AUTO, and the points whose entry changed are resolved in no stated order. -/
def allOverridesAuto (env : Env) (ev : Ev) : Ev :=
  let ps := allPoints.filter fun p => (ev.plant.chan p).override != .auto
  let ev' := ps.foldl (fun ev p => setOverride p .auto ev) ev
  (inFreeOrder ev.plant.draws ps).foldl (resolveReleased env) ev'.draw

/-- OVAL (R31, R162). -/
def orderOval (_i : PortId) (o : Order) (s : State) : Answer := done o (s.runEvent allOverridesAuto)

/-- FZON (R14, R162). -/
def orderFzon (_i : PortId) (o : Order) (s : State) : Answer :=
  match zoneOf o.b1 with
  | none => refuse .range o s
  | some z =>
    if (s.zone z).isolated then refuse .isolated o s
    else done o (listBecomes (firefighterZone z s.alarms) s)

/-- EQRS on a fan in FAULT (R91): it enters IDLE, and its held demand then applies by R77. -/
def resetFan (p : Point) (f : Fan) (env : Env) (ev : Ev) : Ev :=
  let f' := { f with state := .idle, fault := .none }
  let ev := putFan env p f' ev
  if f'.wantsRun then putFan env p { f' with state := .queued } ev else ev

/-- EQRS (R66, R91, R162). -/
def orderEqrs (_i : PortId) (o : Order) (s : State) : Answer :=
  match pointOf o.b1 with
  | none => refuse .range o s
  | some p =>
    match (s.plant.chan p).unit with
    | .unused => refuse .state o s
    | .damper d =>
      if d.fault = .none then refuse .state o s
      else done o (s.runEvent fun env ev => putDamper env p (d.clearFault (env.store.point p)) ev)
    | .fan f => if f.state = .fault then done o (s.runEvent (resetFan p f)) else refuse .state o s

/-! ## The building port's orders (R163) -/

/-- The point's demand is drawn from the normal-demand table (R34). That a point under override in FIRE, unassigned with
unassigned action NORMAL, is not among them, and keeps its last fire demand, is the model's choice (assumption 31): R34
names no override in that case, and lists "under override" among the cases that are not resolved. -/
def drawnFromTable (env : Env) (pl : Plant) (p : Point) : Bool :=
  (pl.chan p).override == .auto &&
    match pl.mode with
    | .normal => true
    | .test => pl.test.current != some p
    | .fire =>
      (firstAssignment env.store p env.alarms).isNone && (env.store.point p).unassigned == .normal
    | .restore | .commission => false

/-- A new normal-demand entry (R33, R34). -/
def setNormal (p : Point) (a : Action) (env : Env) (ev : Ev) : Ev :=
  let ev := ev.setChan p { ev.plant.chan p with normal := a }
  if drawnFromTable env ev.plant p then resolvePoint env false ev p else ev

/-- NDEM (R33, R34, R163). -/
def orderNdem (_i : PortId) (o : Order) (s : State) : Answer :=
  match pointOf o.b1, actionOf o.b2 with
  | some p, some (some a) =>
    if s.plant.mode = .commission then refuse .mode o s
    else if (s.plant.chan p).normal = a then done o s
    else done o (s.runEvent (setNormal p a))
  | _, _ => refuse .range o s

/-- A proof test begins (R122): the record is cleared and set, the mode becomes TEST, the first step begins. -/
def beginTest (first count : Nat) (env : Env) (ev : Ev) : Ev :=
  let ev := ev.withTest fun _ =>
    { state := .running, first := first, count := count, current := none, step := none, home := none,
      results := [], failed := 0 }
  beginSteps env count first (resolveAll env false (ev.setMode .test))

/-- PTST (R122, R163). -/
def orderPtst (_i : PortId) (o : Order) (s : State) : Answer :=
  let first := o.b1.toNat
  let count := o.b2.toNat
  if 63 < first ∨ count = 0 ∨ 64 < count ∨ 64 < first + count then refuse .range o s
  else if s.plant.mode ≠ .normal then refuse .mode o s
  else done o (s.runEvent (beginTest first count))

/-- PTHL on a running test (R133). -/
def haltTest (env : Env) (ev : Ev) : Ev := resolveAll env false ((abortTest ev).setMode .normal)

/-- PTHL (R133, R163). -/
def orderPthl (_i : PortId) (o : Order) (s : State) : Answer :=
  if s.plant.test.state = .running then done o (s.runEvent haltTest) else refuse .state o s

/-- PTRD (R136, R163). -/
def orderPtrd (_i : PortId) (o : Order) (s : State) : Answer :=
  let l := s.plant.test.results
  if 63 < o.b1.toNat then refuse .range o s
  else
    match l[o.b1.toNat]? with
    | some e => result (byte e.point.val) (byte e.outcome.code) (byte l.length) s
    | none => result noneByte noneByte (byte l.length) s

/-- CMEN (R47, R163). -/
def orderCmen (_i : PortId) (o : Order) (s : State) : Answer :=
  if s.plant.mode = .normal then
    done o (s.runEvent fun env ev => resolveAll env false (ev.setMode .commission))
  else refuse .mode o s

/-- CMLV (R47, R163). -/
def orderCmlv (_i : PortId) (o : Order) (s : State) : Answer :=
  if s.plant.mode = .commission then
    done o (s.runEvent fun env ev => resolveAll env false (ev.setMode .normal))
  else refuse .mode o s

/-! ## Store writes and reads (R164, R167, R170, R171) -/

/-- A store write that has passed its operand checks: refused with MODE outside COMMISSION, else accepted, and the
store write timer loaded (R164, R167, R170). -/
def acceptWrite (tgt : WriteTarget) (o : Order) (s : State) : Answer :=
  if s.plant.mode = .commission then
    ({ s with write := some { target := tgt, cycles := Config.storeWriteCycles } }, none)
  else refuse .mode o s

/-- WPCF (R164, R167). -/
def orderWpcf (_i : PortId) (o : Order) (s : State) : Answer :=
  match pointOf o.b1 with
  | none => refuse .range o s
  | some p =>
    if ((s.store.point p).setField o.b2.toNat o.b3.toNat).isNone then refuse .range o s
    else acceptWrite (.point p o.b2.toNat o.b3.toNat) o s

/-- WZCF (R164, R167). -/
def orderWzcf (_i : PortId) (o : Order) (s : State) : Answer :=
  match zoneOf o.b1 with
  | none => refuse .range o s
  | some z =>
    if ((s.store.zone z).setField o.b2.toNat o.b3.toNat).isNone then refuse .range o s
    else acceptWrite (.zone z o.b2.toNat o.b3.toNat) o s

/-- WSCN (R164, R167): NONE is allowed. -/
def orderWscn (_i : PortId) (o : Order) (s : State) : Answer :=
  match zoneOf o.b1, pointOf o.b2, actionOf o.b3 with
  | some z, some p, some e => acceptWrite (.scenario z p e) o s
  | _, _, _ => refuse .range o s

/-- WDCF (R164, R167). -/
def orderWdcf (_i : PortId) (o : Order) (s : State) : Answer :=
  if (s.store.device.setField o.b1.toNat o.b2.toNat).isNone then refuse .range o s
  else acceptWrite (.device o.b1.toNat o.b2.toNat) o s

/-- RPCF (R164, R171). -/
def orderRpcf (_i : PortId) (o : Order) (s : State) : Answer :=
  match pointOf o.b1 with
  | none => refuse .range o s
  | some p =>
    match (s.store.point p).getField o.b2.toNat with
    | some v => result o.b1 o.b2 (byte v) s
    | none => refuse .range o s

/-- RZCF (R164, R171). -/
def orderRzcf (_i : PortId) (o : Order) (s : State) : Answer :=
  match zoneOf o.b1 with
  | none => refuse .range o s
  | some z =>
    match (s.store.zone z).getField o.b2.toNat with
    | some v => result o.b1 o.b2 (byte v) s
    | none => refuse .range o s

/-- RSCN (R164, R171). -/
def orderRscn (_i : PortId) (o : Order) (s : State) : Answer :=
  match zoneOf o.b1, pointOf o.b2 with
  | some z, some p => result o.b1 o.b2 (entryByte (s.store.entry z p)) s
  | _, _ => refuse .range o s

/-- RDCF (R164, R171). -/
def orderRdcf (_i : PortId) (o : Order) (s : State) : Answer :=
  match s.store.device.getField o.b1.toNat with
  | some v => result o.b1 0#8 (byte v) s
  | none => refuse .range o s

end Sys2Proof.Machine
end

