-- ==== Sys2Proof/Machine/PortEvents.lean ====
section
/-! DEFINITION. The order decoder's sequence of checks and the panel ports (chapter 7, R152 to R155). -/

namespace Sys2Proof.Machine

/-- An order that has passed the code and port checks goes to its owning block. -/
def runOrder (k : OrderKind) (i : PortId) (o : Order) (s : State) : Answer :=
  match k with
  | .qsys => orderQsys i o s
  | .qalm => orderQalm i o s
  | .qzon => orderQzon i o s
  | .qpnt => orderQpnt i o s
  | .nxch => orderNxch i o s
  | .zalm => orderZalm i o s
  | .arst => orderArst i o s
  | .ziso => orderZiso i o s
  | .zrin => orderZrin i o s
  | .ovrd => orderOvrd i o s
  | .oval => orderOval i o s
  | .fzon => orderFzon i o s
  | .eqrs => orderEqrs i o s
  | .ndem => orderNdem i o s
  | .ptst => orderPtst i o s
  | .pthl => orderPthl i o s
  | .ptrd => orderPtrd i o s
  | .cmen => orderCmen i o s
  | .cmlv => orderCmlv i o s
  | .wpcf => orderWpcf i o s
  | .wzcf => orderWzcf i o s
  | .wscn => orderWscn i o s
  | .wdcf => orderWdcf i o s
  | .rpcf => orderRpcf i o s
  | .rzcf => orderRzcf i o s
  | .rscn => orderRscn i o s
  | .rdcf => orderRdcf i o s

/-- The order decoder (R154): the code, then the port rights, then the order's own checks. -/
def decodeOrder (i : PortId) (o : Order) (s : State) : Answer :=
  match orderKind o.code with
  | none => refuse .unknown o s
  | some k => if portAllowed k i then runOrder k i o s else refuse .port o s

/-- An order completes (R142): the reply fills the output slots with the flags as they stand, which are cleared. -/
def PortRec.complete (y : Reply) (r : PortRec) : PortRec :=
  { r.clearFlags with
    outSlots := #v[some (r.byte0 y.code), some y.r1, some y.r2, some y.r3]
    rptr := 0
    inProgress := none }

/-- The port takes its order (R141): the input slots are freed and the order is in progress. -/
def PortRec.take (o : Order) (r : PortRec) : PortRec :=
  { r with inSlots := Vector.replicate 4 none, wptr := 0, inProgress := some o }

/-- The port has no order in progress and all four output slots are EMPTY (R141). -/
def PortRec.free (r : PortRec) : Bool := r.inProgress.isNone && !r.replyWaiting

/-- An order is taken, decoded and, unless a store write has been accepted, completed within the event (R141,
R142). -/
def takeOrder (i : PortId) (o : Order) (s : State) : State :=
  match decodeOrder i o (s.setPort i ((s.port i).take o)) with
  | (t, some y) => t.setPort i ((t.port i).complete y)
  | (t, none) => t

/-- The test of R141: a complete order is taken if the port is free. -/
def takeIfReady (i : PortId) (s : State) : State :=
  match (s.port i).completeOrder with
  | some o => if (s.port i).free then takeOrder i o s else s
  | none => s

/-- A byte reaches the input slots (R139): it is stored, and may complete an order; or it is discarded with
OVERRUN. -/
def writeByte (i : PortId) (x : Byte) (s : State) : State :=
  let r := s.port i
  match r.inSlots[r.wptr] with
  | some _ => s.setPort i { r with overrun := true }
  | none => takeIfReady i (s.setPort i { r with inSlots := r.inSlots.set r.wptr (some x), wptr := r.wptr + 1 })

/-- SEL going inactive (R140): a partial order is discarded and SHORT set. -/
def selReleased (i : PortId) (s : State) : State :=
  let r := s.port i
  if r.inputEmpty || r.completeOrder.isSome then s
  else s.setPort i { r with inSlots := Vector.replicate 4 none, wptr := 0, short := true }

/-- A read strobe (R143): the byte driven is the port's last byte driven after the event. -/
def readByte (i : PortId) (s : State) : State :=
  let r := s.port i
  match r.outSlots[r.rptr] with
  | none => s.setPort i { r with underrun := true }
  | some x =>
    takeIfReady i
      (s.setPort i { r with outSlots := r.outSlots.set r.rptr none, rptr := r.rptr + 1, lastDriven := x })

/-- A panel writes a whole order: the ends of its four write strobes, with SEL active and no other event between
them (R139, R141). At a free port with EMPTY input slots the order is taken at the fourth; otherwise it waits, or its
bytes are discarded, as R139 says. -/
def deliverOrder (i : PortId) (o : Order) (s : State) : State :=
  writeByte i o.b3 (writeByte i o.b2 (writeByte i o.b1 (writeByte i o.code s)))

/-- The store write in progress completes (R142, R167): the new value and its effect, then the DONE reply at the
B-port with the operands echoed. -/
def storeWriteDone (s : State) : State :=
  match s.write with
  | none => s
  | some w =>
    let t := completeWrite w.target s
    match t.ports.b.inProgress with
    | none => t
    | some o => t.setPort .b (t.ports.b.complete { code := .done, r1 := o.b1, r2 := o.b2, r3 := o.b3 })

end Sys2Proof.Machine
end

