-- ==== Sys2Proof/Machine/DeviceReset.lean ====
section
/-! DEFINITION. Device reset (R9, R19, R20, R49, R72, R101, R119, R120, R137, R147, R149, R151, R168, R172). -/

namespace Sys2Proof.Machine

/-- A zone's line after reset: the filtered level at the input's level, SETTLED, not isolated (R19). -/
def ZoneLine.afterReset (l : ZoneLine) : ZoneLine :=
  { raw := l.raw, filter := .settled l.raw, isolated := false }

/-- Every zone line after reset. -/
def resetZones (v : Vector ZoneLine 32) : Vector ZoneLine 32 :=
  allZones.foldl (fun v (z : Zone) => v.set z (v[z]).afterReset) v

/-- A point's channel after reset, before the resolver hands it a demand (R29, R33, R49, R72, R101). -/
def Channel.atReset (c : PointCfg) (ch : Channel) : Channel where
  fba := ch.fba
  fbb := ch.fbb
  cmd := false
  unit := .afterReset c ch
  override := .auto
  normal := if c.kind = .damper then .toClose else .stop
  lastFire := none
  testDemand := none
  resolved := none

/-- Every channel after reset. -/
def resetChannels (st : Store) (v : Vector Channel 64) : Vector Channel 64 :=
  allPoints.foldl (fun v (p : Point) => v.set p ((v[p]).atReset (st.point p))) v

/-- The supply monitor after reset (R120). -/
def Supply.atReset (su : Supply) : Supply where
  raw := su.raw
  filter := .settled su.raw
  state := if su.raw = .low then .failed else .good
  settle := .idle

/-- The plant after reset, in the mode that the rebuilt list gives (R49), before the resolver hands its demands. -/
def Plant.atReset (st : Store) (fire : Bool) (pl : Plant) : Plant where
  chans := resetChannels st pl.chans
  mode := if fire then .fire else .normal
  sched := .afterReset st.device.nALW
  supply := pl.supply.atReset
  test := .afterReset
  joinReports := []
  draws := pl.draws

/-- The points whose stored kind is not UNUSED (R147). -/
def usedPoints (st : Store) : Vector Bool 64 :=
  addMembers (allPoints.filter fun p => st.kind p != .unused) (Vector.replicate 64 false)

/-- The ports after reset (Table 7-1, R147). -/
def Ports.afterReset (st : Store) : Ports :=
  { a := .afterReset (usedPoints st), f := .afterReset (usedPoints st), b := .afterReset (usedPoints st) }

/-- The end of a device reset: a write in progress is ended, the store read out, every block takes its after-reset
state, and the resolver hands every FAN and DAMPER point its demand (R49, R151, R172). The ports take their records
last, so that what the hand-over marks is within the sets that R147 fills. -/
def deviceResetEnds (s : State) : State :=
  let s := endWriteByReset s
  let s := { s with held := false, periodEnds := [], zones := resetZones s.zones }
  let s := { s with alarms := rebuiltList s }
  let s := { s with plant := s.plant.atReset s.store (!s.alarms.isEmpty) }
  let s := s.runEvent fun env ev => resolveAll env true ev
  { s with ports := .afterReset s.store }

/-- Device reset begins and is held (R149, R151): every CMD is de-energised, SPD and ATN are at rest, a write in
progress is ended (R168), and the alarm list has no entries until its rebuild (R9), so that the mode is not FIRE (R40).
The other records take their after-reset state at the end of the reset. -/
def deviceResetBegins (s : State) : State :=
  let s := endWriteByReset s
  { s with
    held := true
    alarms := []
    plant :=
      { s.plant with
        chans := allPoints.foldl (fun v (p : Point) => v.set p { v[p] with cmd := false }) s.plant.chans
        mode := if s.plant.mode = .fire then .normal else s.plant.mode } }

end Sys2Proof.Machine
end

