-- ==== Sys2Proof/Machine/PlantEvents.lean ====
section
/-! DEFINITION. The events at the lines and timers of the plant: limits, stroke timers, FBA edges, gate windows,
proof limits, run-downs, period boundaries, drive-fault contacts, the spacing timer, SUPFAIL and the settle timer. -/

namespace Sys2Proof.Machine

/-! ## Damper limits (R53) -/

/-- A damper limit's filter, by input. -/
def Damper.filt (d : Damper) : LimitInput → Filter
  | .fba => d.fbaFilt
  | .fbb => d.fbbFilt

/-- Replaces a damper limit's filter. -/
def Damper.setFilt (i : LimitInput) (f : Filter) (d : Damper) : Damper :=
  match i with
  | .fba => { d with fbaFilt := f }
  | .fbb => { d with fbbFilt := f }

/-- The arrangement reads an input (R52). -/
def PointCfg.readsLimit (c : PointCfg) : LimitInput → Bool
  | .fba => c.readsFba
  | .fbb => c.readsFbb

/-- A limit's filter becomes `f`: a changed filtered level is a limit event within the same event (R53). -/
def limitFilterTakes (env : Env) (p : Point) (i : LimitInput) (d : Damper) (f : Filter) (ev : Ev) : Ev :=
  let d' := d.setFilt i f
  if (d.filt i).filtered = f.filtered then putDamper env p d' ev
  else moveDamper env p (d'.limitEvent (env.store.point p) i) ev

/-- A raw change at a damper's limit input: an input that the arrangement does not read has no filter (R52). -/
def damperLine (env : Env) (p : Point) (i : LimitInput) (level : Level) (d : Damper) (ev : Ev) : Ev :=
  if (env.store.point p).readsLimit i then
    limitFilterTakes env p i d ((d.filt i).rawChange env.store.device.tFBF level) ev
  else ev

/-- A damper limit's filter timer runs out in PENDING (R53). -/
def limitTimerOut (p : Point) (i : LimitInput) (env : Env) (ev : Ev) : Ev :=
  match ev.plant.damper? p with
  | none => ev
  | some d =>
    if (d.filt i).timer.isRunning then
      let raw := match i with
        | .fba => (ev.plant.chan p).fba
        | .fbb => (ev.plant.chan p).fbb
      limitFilterTakes env p i d ((d.filt i).expire raw) ev
    else ev

/-- A damper's stroke timer runs out (R60, R61). -/
def strokeTimerOut (p : Point) (env : Env) (ev : Ev) : Ev :=
  match ev.plant.damper? p with
  | none => ev
  | some d =>
    if d.stroke.isRunning then moveDamper env p (d.strokeRunsOut (env.store.point p)) ev else ev

/-! ## Fan inputs -/

/-- Counts a rising edge of FBA on an energised fan (R94). -/
def countEdge (p : Point) (ev : Ev) : Ev :=
  match ev.plant.fan? p with
  | none => ev
  | some f =>
    if f.state.energised then
      ev.setChan p { ev.plant.chan p with unit := .fan { f with proof := f.proof.edge } }
    else ev

/-- The filter of a fan's FBB becomes `g` (R89, R90): an indication that begins on an energised fan takes it to
FAULT(DRIVE); otherwise the drive-alarm flag follows. -/
def driveFilterTakes (env : Env) (p : Point) (f : Fan) (g : Filter) (ev : Ev) : Ev :=
  let c := env.store.point p
  let f' := { f with fbbFilt := g }
  if !driveFaultIndicated c f.fbbFilt.filtered && driveFaultIndicated c g.filtered && f.state.energised then
    putFan env p (f'.toFault .drive) ev
  else putFan env p f' ev

/-- A raw change at a fan's FBB, read or not by the contact field (R89). -/
def driveLine (env : Env) (p : Point) (level : Level) (f : Fan) (ev : Ev) : Ev :=
  if (env.store.point p).readsDriveContact then
    driveFilterTakes env p f (f.fbbFilt.rawChange env.store.device.tFBF level) ev
  else ev

/-- A fan's FBB filter timer runs out in PENDING (R89). -/
def driveTimerOut (p : Point) (env : Env) (ev : Ev) : Ev :=
  match ev.plant.fan? p with
  | none => ev
  | some f =>
    if f.fbbFilt.timer.isRunning then
      driveFilterTakes env p f (f.fbbFilt.expire (ev.plant.chan p).fbb) ev
    else ev

/-! ## The two feedback lines of a point -/

/-- Sets the level of a feedback line. -/
def Channel.setLine (i : LimitInput) (level : Level) (ch : Channel) : Channel :=
  match i with
  | .fba => { ch with fba := level }
  | .fbb => { ch with fbb := level }

/-- The level of a feedback line. -/
def Channel.line (ch : Channel) : LimitInput → Level
  | .fba => ch.fba
  | .fbb => ch.fbb

/-- A feedback line of a point changes to a level: what the point's record makes of it. An UNUSED point's inputs are
not read (R22); a fan counts a rising FBA (R94) and filters FBB (R89); a damper filters its limits (R53). -/
def feedbackLine (p : Point) (i : LimitInput) (level : Level) (env : Env) (ev : Ev) : Ev :=
  let ch := ev.plant.chan p
  if ch.line i = level then ev
  else
    let ev := ev.setChan p (ch.setLine i level)
    match ch.unit with
    | .unused => ev
    | .damper d => damperLine env p i level d ev
    | .fan f =>
      match i with
      | .fba => if level = .high then countEdge p ev else ev
      | .fbb => driveLine env p level f ev

/-- A rising edge of FBA (R94). On a fan it is counted even when the line's last known level is high, since the fall
before it has no command of its own and no effect; on another point it is a change of the line to high. -/
def risingEdge (p : Point) (env : Env) (ev : Ev) : Ev :=
  let ch := ev.plant.chan p
  match ch.unit with
  | .fan _ => countEdge p (ev.setChan p (ch.setLine .fba .high))
  | _ => feedbackLine p .fba .high env ev

/-! ## Fan timers -/

/-- A fan's gate timer runs out (R96). -/
def gateTimerOut (p : Point) (env : Env) (ev : Ev) : Ev :=
  match ev.plant.fan? p with
  | none => ev
  | some f =>
    if f.state.energised && f.proof.gate.isRunning then putFan env p (f.windowEnds (env.store.point p)) ev else ev

/-- A STARTING fan's proof-limit timer runs out (R81). -/
def proofLimitOut (p : Point) (env : Env) (ev : Ev) : Ev :=
  match ev.plant.fan? p with
  | none => ev
  | some f =>
    if f.state = .starting ∧ f.proofLimit.isRunning = true then putFan env p (f.toFault .failStart) ev else ev

/-- A fan's run-down timer runs out (R85). -/
def runDownTimerOut (p : Point) (env : Env) (ev : Ev) : Ev :=
  match ev.plant.fan? p with
  | none => ev
  | some f => if f.runDown.isRunning then runDownEnds env p ev else ev

/-- A period boundary of a fan whose period runs (R98, R99). -/
def boundaryOut (p : Point) (env : Env) (ev : Ev) : Ev :=
  match ev.plant.fan? p with
  | none => ev
  | some f => if f.state.energised then putFan env p (f.boundary (env.store.point p)) ev else ev

/-! ## Scheduler and supply -/

/-- The spacing timer runs out (R112). -/
def spacingOut (_env : Env) (ev : Ev) : Ev :=
  if ev.plant.sched.spacing.isRunning then
    (ev.withSched fun sc => { sc with spacing := .idle }).evaluateIf true
  else ev

/-- Changes the supply monitor. -/
def Ev.withSupply (g : Supply → Supply) (ev : Ev) : Ev :=
  ev.withPlant fun pl => { pl with supply := g pl.supply }

/-- SUPFAIL has become active or inactive (R115 to R117). -/
def supplyActivity (env : Env) (active : Bool) (ev : Ev) : Ev :=
  match ev.plant.supply.state, active with
  | .good, true =>
    (supplyTrip env (ev.withSupply fun su => { su with state := .failed })).evaluateIf true
  | .settling, true =>
    (ev.withSupply fun su => { su with state := .failed, settle := .idle }).evaluateIf true
  | .failed, false =>
    (ev.withSupply fun su => { su with state := .settling, settle := .load (8 * env.store.device.tSET) }).evaluateIf
      true
  | _, _ => ev

/-- The SUPFAIL filter becomes `g` (R114): the line is active while its filtered level is low. -/
def supplyFilterTakes (env : Env) (g : Filter) (ev : Ev) : Ev :=
  let old := ev.plant.supply.filter.filtered
  let ev := ev.withSupply fun su => { su with filter := g }
  if old = g.filtered then ev else supplyActivity env (g.filtered == .low) ev

/-- A change of the raw SUPFAIL level (R114). -/
def supfailLine (level : Level) (env : Env) (ev : Ev) : Ev :=
  let su := ev.plant.supply
  if su.raw = level then ev
  else
    supplyFilterTakes env (su.filter.rawChange env.store.device.tFBF level)
      (ev.withSupply fun su => { su with raw := level })

/-- The SUPFAIL filter timer runs out in PENDING (R114). -/
def supfailTimerOut (env : Env) (ev : Ev) : Ev :=
  let su := ev.plant.supply
  if su.filter.timer.isRunning then supplyFilterTakes env (su.filter.expire su.raw) ev else ev

/-- The settle timer runs out in SETTLING (R118). -/
def settleTimerOut (_env : Env) (ev : Ev) : Ev :=
  let su := ev.plant.supply
  if su.state = .settling ∧ su.settle.isRunning = true then
    (ev.withSupply fun su => { su with state := .good, settle := .idle }).evaluateIf true
  else ev

/-! ## Joining report -/

/-- The waiting joining report is taken at the test unit (R129). -/
def joiningReportTaken (env : Env) (ev : Ev) : Ev :=
  match ev.plant.joinReports with
  | [] => ev
  | r :: rs => takeJoinReport env r (ev.withPlant fun pl => { pl with joinReports := rs })

/-! ## While device reset is held (R151) -/

/-- A feedback line moves and nothing else does. -/
def moveFeedbackLine (p : Point) (i : LimitInput) (level : Level) (s : State) : State :=
  { s with plant := s.plant.setChan p ((s.plant.chan p).setLine i level) }

/-- The SUPFAIL line moves and nothing else does. -/
def moveSupfailLine (level : Level) (s : State) : State :=
  { s with plant := { s.plant with supply := { s.plant.supply with raw := level } } }

/-- An event that device reset keeps from happening: while it is held, nothing (R151). -/
def State.unlessHeld (g : State → State) (s : State) : State := if s.held then s else g s

/-- A feedback line changes to a level, in or out of device reset. -/
def feedbackChange (p : Point) (i : LimitInput) (level : Level) (s : State) : State :=
  if s.held then moveFeedbackLine p i level s else s.runEvent (feedbackLine p i level)

/-- The SUPFAIL line changes to a level, in or out of device reset. -/
def supfailChange (level : Level) (s : State) : State :=
  if s.held then moveSupfailLine level s else s.runEvent (supfailLine level)

end Sys2Proof.Machine
end

