-- ==== Sys2Proof/Machine/EventCommands.lean ====
section
/-! DEFINITION. The meanings of the commands that are events at lines, timers, strobes and reset. -/

namespace Sys2Proof.Machine

/-- A strobe with SEL inactive is ignored (chapter 7, writing an order). -/
def strobed (sel : Bool) (g : State → State) (s : State) : State := if sel then g s else s

/-- A rising edge of FBA, in or out of device reset. -/
def edgeChange (p : Point) (s : State) : State :=
  if s.held then moveFeedbackLine p .fba .high s else s.runEvent (risingEdge p)

/-- ZONE_RAW_LEVEL_CHANGE (R2): the zone's line changes to a level. -/
def execZoneRawLevelChange (z : Zone) (level : Level) (s : State) : Host.Outcome State Fault Refusal :=
  .next (zoneRawChange z level s)

/-- ZONE_FILTER_TIMER_RUNS_OUT (R3). -/
def execZoneFilterTimerRunsOut (z : Zone) (s : State) : Host.Outcome State Fault Refusal :=
  .next (s.unlessHeld (zoneTimerOut z))

/-- LIMIT_RAW_LEVEL_CHANGE (R53): a feedback line of a point changes to a level. -/
def execLimitRawLevelChange (p : Point) (input : LimitInput) (level : Level) (s : State) : Host.Outcome State Fault Refusal :=
  .next (feedbackChange p input level s)

/-- LIMIT_FILTER_TIMER_RUNS_OUT (R53). -/
def execLimitFilterTimerRunsOut (p : Point) (input : LimitInput) (s : State) : Host.Outcome State Fault Refusal :=
  .next (s.unlessHeld (State.runEvent (limitTimerOut p input)))

/-- STROKE_TIMER_RUNS_OUT (R60, R61). -/
def execStrokeTimerRunsOut (p : Point) (s : State) : Host.Outcome State Fault Refusal :=
  .next (s.unlessHeld (State.runEvent (strokeTimerOut p)))

/-- FBA_RISING_EDGE (R94). -/
def execFbaRisingEdge (p : Point) (s : State) : Host.Outcome State Fault Refusal :=
  .next (edgeChange p s)

/-- GATE_TIMER_RUNS_OUT (R96, R80, R82). -/
def execGateTimerRunsOut (p : Point) (s : State) : Host.Outcome State Fault Refusal :=
  .next (s.unlessHeld (State.runEvent (gateTimerOut p)))

/-- PROOF_LIMIT_TIMER_RUNS_OUT (R81). -/
def execProofLimitTimerRunsOut (p : Point) (s : State) : Host.Outcome State Fault Refusal :=
  .next (s.unlessHeld (State.runEvent (proofLimitOut p)))

/-- RUN_DOWN_TIMER_RUNS_OUT (R85). -/
def execRunDownTimerRunsOut (p : Point) (s : State) : Host.Outcome State Fault Refusal :=
  .next (s.unlessHeld (State.runEvent (runDownTimerOut p)))

/-- PERIOD_BOUNDARY (R98, R99). -/
def execPeriodBoundary (p : Point) (s : State) : Host.Outcome State Fault Refusal :=
  .next (s.unlessHeld (State.runEvent (boundaryOut p)))

/-- FBB_RAW_LEVEL_CHANGE (R89): a point's FBB line changes to a level. -/
def execFbbRawLevelChange (p : Point) (level : Level) (s : State) : Host.Outcome State Fault Refusal :=
  .next (feedbackChange p .fbb level s)

/-- FBB_FILTER_TIMER_RUNS_OUT (R89, R90). -/
def execFbbFilterTimerRunsOut (p : Point) (s : State) : Host.Outcome State Fault Refusal :=
  .next (s.unlessHeld (State.runEvent (driveTimerOut p)))

/-- SPACING_TIMER_RUNS_OUT (R112). -/
def execSpacingTimerRunsOut (s : State) : Host.Outcome State Fault Refusal :=
  .next (s.unlessHeld (State.runEvent spacingOut))

/-- SUPFAIL_RAW_LEVEL_CHANGE (R114): the SUPFAIL line changes to a level. -/
def execSupfailRawLevelChange (level : Level) (s : State) : Host.Outcome State Fault Refusal :=
  .next (supfailChange level s)

/-- SUPFAIL_FILTER_TIMER_RUNS_OUT (R114 to R117). -/
def execSupfailFilterTimerRunsOut (s : State) : Host.Outcome State Fault Refusal :=
  .next (s.unlessHeld (State.runEvent supfailTimerOut))

/-- SETTLE_TIMER_RUNS_OUT (R118). -/
def execSettleTimerRunsOut (s : State) : Host.Outcome State Fault Refusal :=
  .next (s.unlessHeld (State.runEvent settleTimerOut))

/-- STORE_WRITE_COMPLETES (R167, R169, R142). -/
def execStoreWriteCompletes (s : State) : Host.Outcome State Fault Refusal :=
  .next (s.unlessHeld storeWriteDone)

/-- JOINING_REPORT (R129). -/
def execJoiningReport (s : State) : Host.Outcome State Fault Refusal :=
  .next (s.unlessHeld (State.runEvent joiningReportTaken))

/-- WR_STROBE_END (R139). -/
def execWrStrobeEnd (port : PortId) (sel : Bool) (data : Byte) (s : State) : Host.Outcome State Fault Refusal :=
  .next (s.unlessHeld (strobed sel (writeByte port data)))

/-- SEL_INACTIVE (R140). -/
def execSelInactive (port : PortId) (s : State) : Host.Outcome State Fault Refusal :=
  .next (s.unlessHeld (selReleased port))

/-- RD_STROBE (R143). -/
def execRdStrobe (port : PortId) (sel : Bool) (s : State) : Host.Outcome State Fault Refusal :=
  .next (s.unlessHeld (strobed sel (readByte port)))

/-- DEVICE_RESET (R151): the reset ends and every block takes its after-reset state. -/
def execDeviceReset (s : State) : Host.Outcome State Fault Refusal :=
  .next (deviceResetEnds s)

/-- DEVICE_RESET_HELD (R149, R151): the reset begins and is held. -/
def execDeviceResetHeld (s : State) : Host.Outcome State Fault Refusal :=
  .next (deviceResetBegins s)

end Sys2Proof.Machine
end

