-- ==== Sys2Proof/Machine/OrderCommands.lean ====
section
/-! DEFINITION. The meanings of the commands that are orders: the panel writes the order's four bytes at its port
(`deliverOrder`), and the order's own effect is its definition in Orders.lean. While device reset is held the ports
ignore their strobes (R149). -/

namespace Sys2Proof.Machine

/-- UNKNOWN_ORDER_CODE (R152). The bytes are decoded like any others. -/
def execUnknownOrderCode (port : PortId) (code b1 b2 b3 : Byte) (s : State) : Host.Outcome State Fault Refusal :=
  .next (s.unlessHeld (deliverOrder port { code := code, b1 := b1, b2 := b2, b3 := b3 }))

/-- QSYS (R156). -/
def execQsys (port : PortId) (b1 b2 b3 : Byte) (s : State) : Host.Outcome State Fault Refusal :=
  .next (s.unlessHeld (deliverOrder port { code := OrderKind.qsys.code, b1 := b1, b2 := b2, b3 := b3 }))

/-- QALM (R159). -/
def execQalm (port : PortId) (b1 b2 b3 : Byte) (s : State) : Host.Outcome State Fault Refusal :=
  .next (s.unlessHeld (deliverOrder port { code := OrderKind.qalm.code, b1 := b1, b2 := b2, b3 := b3 }))

/-- QZON (R159). -/
def execQzon (port : PortId) (b1 b2 b3 : Byte) (s : State) : Host.Outcome State Fault Refusal :=
  .next (s.unlessHeld (deliverOrder port { code := OrderKind.qzon.code, b1 := b1, b2 := b2, b3 := b3 }))

/-- QPNT (R157, R158). -/
def execQpnt (port : PortId) (b1 b2 b3 : Byte) (s : State) : Host.Outcome State Fault Refusal :=
  .next (s.unlessHeld (deliverOrder port { code := OrderKind.qpnt.code, b1 := b1, b2 := b2, b3 := b3 }))

/-- NXCH (R146, R160). -/
def execNxch (port : PortId) (b1 b2 b3 : Byte) (s : State) : Host.Outcome State Fault Refusal :=
  .next (s.unlessHeld (deliverOrder port { code := OrderKind.nxch.code, b1 := b1, b2 := b2, b3 := b3 }))

/-- ZALM (R13, R161). -/
def execZalm (port : PortId) (b1 b2 b3 : Byte) (s : State) : Host.Outcome State Fault Refusal :=
  .next (s.unlessHeld (deliverOrder port { code := OrderKind.zalm.code, b1 := b1, b2 := b2, b3 := b3 }))

/-- ARST (R16, R161). -/
def execArst (port : PortId) (b1 b2 b3 : Byte) (s : State) : Host.Outcome State Fault Refusal :=
  .next (s.unlessHeld (deliverOrder port { code := OrderKind.arst.code, b1 := b1, b2 := b2, b3 := b3 }))

/-- ZISO (R6, R161). -/
def execZiso (port : PortId) (b1 b2 b3 : Byte) (s : State) : Host.Outcome State Fault Refusal :=
  .next (s.unlessHeld (deliverOrder port { code := OrderKind.ziso.code, b1 := b1, b2 := b2, b3 := b3 }))

/-- ZRIN (R7, R161). -/
def execZrin (port : PortId) (b1 b2 b3 : Byte) (s : State) : Host.Outcome State Fault Refusal :=
  .next (s.unlessHeld (deliverOrder port { code := OrderKind.zrin.code, b1 := b1, b2 := b2, b3 := b3 }))

/-- OVRD (R30, R162). -/
def execOvrd (port : PortId) (b1 b2 b3 : Byte) (s : State) : Host.Outcome State Fault Refusal :=
  .next (s.unlessHeld (deliverOrder port { code := OrderKind.ovrd.code, b1 := b1, b2 := b2, b3 := b3 }))

/-- OVAL (R31, R162). -/
def execOval (port : PortId) (b1 b2 b3 : Byte) (s : State) : Host.Outcome State Fault Refusal :=
  .next (s.unlessHeld (deliverOrder port { code := OrderKind.oval.code, b1 := b1, b2 := b2, b3 := b3 }))

/-- FZON (R14, R162). -/
def execFzon (port : PortId) (b1 b2 b3 : Byte) (s : State) : Host.Outcome State Fault Refusal :=
  .next (s.unlessHeld (deliverOrder port { code := OrderKind.fzon.code, b1 := b1, b2 := b2, b3 := b3 }))

/-- EQRS (R66, R91, R162). -/
def execEqrs (port : PortId) (b1 b2 b3 : Byte) (s : State) : Host.Outcome State Fault Refusal :=
  .next (s.unlessHeld (deliverOrder port { code := OrderKind.eqrs.code, b1 := b1, b2 := b2, b3 := b3 }))

/-- NDEM (R33, R34, R163). -/
def execNdem (port : PortId) (b1 b2 b3 : Byte) (s : State) : Host.Outcome State Fault Refusal :=
  .next (s.unlessHeld (deliverOrder port { code := OrderKind.ndem.code, b1 := b1, b2 := b2, b3 := b3 }))

/-- PTST (R122, R163). -/
def execPtst (port : PortId) (b1 b2 b3 : Byte) (s : State) : Host.Outcome State Fault Refusal :=
  .next (s.unlessHeld (deliverOrder port { code := OrderKind.ptst.code, b1 := b1, b2 := b2, b3 := b3 }))

/-- PTHL (R133, R163). -/
def execPthl (port : PortId) (b1 b2 b3 : Byte) (s : State) : Host.Outcome State Fault Refusal :=
  .next (s.unlessHeld (deliverOrder port { code := OrderKind.pthl.code, b1 := b1, b2 := b2, b3 := b3 }))

/-- PTRD (R136, R163). -/
def execPtrd (port : PortId) (b1 b2 b3 : Byte) (s : State) : Host.Outcome State Fault Refusal :=
  .next (s.unlessHeld (deliverOrder port { code := OrderKind.ptrd.code, b1 := b1, b2 := b2, b3 := b3 }))

/-- CMEN (R47, R163). -/
def execCmen (port : PortId) (b1 b2 b3 : Byte) (s : State) : Host.Outcome State Fault Refusal :=
  .next (s.unlessHeld (deliverOrder port { code := OrderKind.cmen.code, b1 := b1, b2 := b2, b3 := b3 }))

/-- CMLV (R47, R163). -/
def execCmlv (port : PortId) (b1 b2 b3 : Byte) (s : State) : Host.Outcome State Fault Refusal :=
  .next (s.unlessHeld (deliverOrder port { code := OrderKind.cmlv.code, b1 := b1, b2 := b2, b3 := b3 }))

/-- WPCF (R164, R167). -/
def execWpcf (port : PortId) (b1 b2 b3 : Byte) (s : State) : Host.Outcome State Fault Refusal :=
  .next (s.unlessHeld (deliverOrder port { code := OrderKind.wpcf.code, b1 := b1, b2 := b2, b3 := b3 }))

/-- WZCF (R164, R167). -/
def execWzcf (port : PortId) (b1 b2 b3 : Byte) (s : State) : Host.Outcome State Fault Refusal :=
  .next (s.unlessHeld (deliverOrder port { code := OrderKind.wzcf.code, b1 := b1, b2 := b2, b3 := b3 }))

/-- WSCN (R164, R167). -/
def execWscn (port : PortId) (b1 b2 b3 : Byte) (s : State) : Host.Outcome State Fault Refusal :=
  .next (s.unlessHeld (deliverOrder port { code := OrderKind.wscn.code, b1 := b1, b2 := b2, b3 := b3 }))

/-- WDCF (R164, R167). -/
def execWdcf (port : PortId) (b1 b2 b3 : Byte) (s : State) : Host.Outcome State Fault Refusal :=
  .next (s.unlessHeld (deliverOrder port { code := OrderKind.wdcf.code, b1 := b1, b2 := b2, b3 := b3 }))

/-- RPCF (R164, R171). -/
def execRpcf (port : PortId) (b1 b2 b3 : Byte) (s : State) : Host.Outcome State Fault Refusal :=
  .next (s.unlessHeld (deliverOrder port { code := OrderKind.rpcf.code, b1 := b1, b2 := b2, b3 := b3 }))

/-- RZCF (R164, R171). -/
def execRzcf (port : PortId) (b1 b2 b3 : Byte) (s : State) : Host.Outcome State Fault Refusal :=
  .next (s.unlessHeld (deliverOrder port { code := OrderKind.rzcf.code, b1 := b1, b2 := b2, b3 := b3 }))

/-- RSCN (R164, R171). -/
def execRscn (port : PortId) (b1 b2 b3 : Byte) (s : State) : Host.Outcome State Fault Refusal :=
  .next (s.unlessHeld (deliverOrder port { code := OrderKind.rscn.code, b1 := b1, b2 := b2, b3 := b3 }))

/-- RDCF (R164, R171). -/
def execRdcf (port : PortId) (b1 b2 b3 : Byte) (s : State) : Host.Outcome State Fault Refusal :=
  .next (s.unlessHeld (deliverOrder port { code := OrderKind.rdcf.code, b1 := b1, b2 := b2, b3 := b3 }))

end Sys2Proof.Machine
end

