-- ==== Sys2Proof/Machine/Dispatch.lean ====
section
/-! DEFINITION. One arm per command, in the order of spec/opcode_table.json. -/

namespace Sys2Proof.Machine

def exec (i : Instr) (s : State) : Host.Outcome State Fault Refusal :=
  match i with
  | .zoneRawLevelChange z level => Sys2Proof.Machine.execZoneRawLevelChange z level s
  | .zoneFilterTimerRunsOut z => Sys2Proof.Machine.execZoneFilterTimerRunsOut z s
  | .limitRawLevelChange p input level => Sys2Proof.Machine.execLimitRawLevelChange p input level s
  | .limitFilterTimerRunsOut p input => Sys2Proof.Machine.execLimitFilterTimerRunsOut p input s
  | .strokeTimerRunsOut p => Sys2Proof.Machine.execStrokeTimerRunsOut p s
  | .fbaRisingEdge p => Sys2Proof.Machine.execFbaRisingEdge p s
  | .gateTimerRunsOut p => Sys2Proof.Machine.execGateTimerRunsOut p s
  | .proofLimitTimerRunsOut p => Sys2Proof.Machine.execProofLimitTimerRunsOut p s
  | .runDownTimerRunsOut p => Sys2Proof.Machine.execRunDownTimerRunsOut p s
  | .periodBoundary p => Sys2Proof.Machine.execPeriodBoundary p s
  | .fbbRawLevelChange p level => Sys2Proof.Machine.execFbbRawLevelChange p level s
  | .fbbFilterTimerRunsOut p => Sys2Proof.Machine.execFbbFilterTimerRunsOut p s
  | .spacingTimerRunsOut => Sys2Proof.Machine.execSpacingTimerRunsOut s
  | .supfailRawLevelChange level => Sys2Proof.Machine.execSupfailRawLevelChange level s
  | .supfailFilterTimerRunsOut => Sys2Proof.Machine.execSupfailFilterTimerRunsOut s
  | .settleTimerRunsOut => Sys2Proof.Machine.execSettleTimerRunsOut s
  | .storeWriteCompletes => Sys2Proof.Machine.execStoreWriteCompletes s
  | .joiningReport => Sys2Proof.Machine.execJoiningReport s
  | .wrStrobeEnd port sel data => Sys2Proof.Machine.execWrStrobeEnd port sel data s
  | .selInactive port => Sys2Proof.Machine.execSelInactive port s
  | .rdStrobe port sel => Sys2Proof.Machine.execRdStrobe port sel s
  | .deviceReset => Sys2Proof.Machine.execDeviceReset s
  | .unknownOrderCode port code b1 b2 b3 => Sys2Proof.Machine.execUnknownOrderCode port code b1 b2 b3 s
  | .qsys port b1 b2 b3 => Sys2Proof.Machine.execQsys port b1 b2 b3 s
  | .qalm port b1 b2 b3 => Sys2Proof.Machine.execQalm port b1 b2 b3 s
  | .qzon port b1 b2 b3 => Sys2Proof.Machine.execQzon port b1 b2 b3 s
  | .qpnt port b1 b2 b3 => Sys2Proof.Machine.execQpnt port b1 b2 b3 s
  | .nxch port b1 b2 b3 => Sys2Proof.Machine.execNxch port b1 b2 b3 s
  | .zalm port b1 b2 b3 => Sys2Proof.Machine.execZalm port b1 b2 b3 s
  | .arst port b1 b2 b3 => Sys2Proof.Machine.execArst port b1 b2 b3 s
  | .ziso port b1 b2 b3 => Sys2Proof.Machine.execZiso port b1 b2 b3 s
  | .zrin port b1 b2 b3 => Sys2Proof.Machine.execZrin port b1 b2 b3 s
  | .ovrd port b1 b2 b3 => Sys2Proof.Machine.execOvrd port b1 b2 b3 s
  | .oval port b1 b2 b3 => Sys2Proof.Machine.execOval port b1 b2 b3 s
  | .fzon port b1 b2 b3 => Sys2Proof.Machine.execFzon port b1 b2 b3 s
  | .eqrs port b1 b2 b3 => Sys2Proof.Machine.execEqrs port b1 b2 b3 s
  | .ndem port b1 b2 b3 => Sys2Proof.Machine.execNdem port b1 b2 b3 s
  | .ptst port b1 b2 b3 => Sys2Proof.Machine.execPtst port b1 b2 b3 s
  | .pthl port b1 b2 b3 => Sys2Proof.Machine.execPthl port b1 b2 b3 s
  | .ptrd port b1 b2 b3 => Sys2Proof.Machine.execPtrd port b1 b2 b3 s
  | .cmen port b1 b2 b3 => Sys2Proof.Machine.execCmen port b1 b2 b3 s
  | .cmlv port b1 b2 b3 => Sys2Proof.Machine.execCmlv port b1 b2 b3 s
  | .wpcf port b1 b2 b3 => Sys2Proof.Machine.execWpcf port b1 b2 b3 s
  | .wzcf port b1 b2 b3 => Sys2Proof.Machine.execWzcf port b1 b2 b3 s
  | .wscn port b1 b2 b3 => Sys2Proof.Machine.execWscn port b1 b2 b3 s
  | .wdcf port b1 b2 b3 => Sys2Proof.Machine.execWdcf port b1 b2 b3 s
  | .rpcf port b1 b2 b3 => Sys2Proof.Machine.execRpcf port b1 b2 b3 s
  | .rzcf port b1 b2 b3 => Sys2Proof.Machine.execRzcf port b1 b2 b3 s
  | .rscn port b1 b2 b3 => Sys2Proof.Machine.execRscn port b1 b2 b3 s
  | .rdcf port b1 b2 b3 => Sys2Proof.Machine.execRdcf port b1 b2 b3 s
  | .deviceResetHeld => Sys2Proof.Machine.execDeviceResetHeld s

end Sys2Proof.Machine
end

