-- ==== Sys2Proof/Machine/TimeBase.lean ====
section
/-! DEFINITION. The time base (R150): what one speed-reference count, 20 CLKIN cycles or 5 µs, does when no command
waits. A timer that has run out puts its own command into the queue; of several that have, the order is free, since
timers that run out together may be taken in either order. -/

namespace Sys2Proof.Machine

/-- One count passes at a timer. -/
def Timer.tick : Timer → Timer
  | .idle => .idle
  | .running n sub =>
    if sub + 1 < Config.countsPerEighth then .running n (sub + 1) else .running (n - 1) 0

/-- A running timer has no eighth left. -/
def Timer.isOut : Timer → Bool
  | .running 0 _ => true
  | _ => false

/-- One count passes at a filter timer. -/
def Filter.tick (f : Filter) : Filter := { f with timer := f.timer.tick }

/-- The command of a timer, if it has run out. -/
def Timer.due (t : Timer) (c : Instr) : List Instr := if t.isOut then [c] else []

/-- One count of the period phase of an energised fan, which stands at 199 until its boundary is taken (R98). -/
def SpeedRef.tick (energised : Bool) (r : SpeedRef) : SpeedRef :=
  if energised && decide (r.phase + 1 < Config.periodCounts) then { r with phase := r.phase + 1 } else r

/-- The fan's period runs and stands in its last phase (R98). -/
def Fan.atLastPhase (f : Fan) : Bool := f.state.energised && decide (Config.periodCounts ≤ f.speed.phase + 1)

/-- One count passes at a fan. -/
def Fan.tick (f : Fan) : Fan :=
  { f with
    runDown := f.runDown.tick
    proofLimit := f.proofLimit.tick
    fbbFilt := f.fbbFilt.tick
    proof := { f.proof with gate := f.proof.gate.tick }
    speed := f.speed.tick f.state.energised }

/-- One count passes at a damper. -/
def Damper.tick (d : Damper) : Damper :=
  { d with stroke := d.stroke.tick, fbaFilt := d.fbaFilt.tick, fbbFilt := d.fbbFilt.tick }

/-- One count passes at a channel. -/
def Channel.tick (ch : Channel) : Channel :=
  { ch with
    unit :=
      match ch.unit with
      | .unused => .unused
      | .damper d => .damper d.tick
      | .fan f => .fan f.tick }

/-- The commands due at a channel: those of its timers that have run out, and the boundary of a period that has come to
its end (`ended`) and has not been followed by another: the phase still stands at its last count. -/
def Channel.due (p : Point) (ended : Bool) (ch : Channel) : List Instr :=
  match ch.unit with
  | .unused => []
  | .damper d =>
    d.stroke.due (.strokeTimerRunsOut p) ++ d.fbaFilt.timer.due (.limitFilterTimerRunsOut p .fba) ++
      d.fbbFilt.timer.due (.limitFilterTimerRunsOut p .fbb)
  | .fan f =>
    f.runDown.due (.runDownTimerRunsOut p) ++ f.proofLimit.due (.proofLimitTimerRunsOut p) ++
      f.fbbFilt.timer.due (.fbbFilterTimerRunsOut p) ++ f.proof.gate.due (.gateTimerRunsOut p) ++
      (if ended && f.atLastPhase then [.periodBoundary p] else [])

/-- One count passes at every zone filter. -/
def tickZones (v : Vector ZoneLine 32) : Vector ZoneLine 32 :=
  allZones.foldl (fun v (z : Zone) => v.set z { v[z] with filter := (v[z]).filter.tick }) v

/-- One count passes at every channel. -/
def tickChannels (v : Vector Channel 64) : Vector Channel 64 :=
  allPoints.foldl (fun v (p : Point) => v.set p (v[p]).tick) v

/-- One count passes in the plant. -/
def Plant.tick (pl : Plant) : Plant :=
  { pl with
    chans := tickChannels pl.chans
    sched := { pl.sched with spacing := pl.sched.spacing.tick }
    supply := { pl.supply with filter := pl.supply.filter.tick, settle := pl.supply.settle.tick } }

/-- One count, 20 CLKIN cycles, passes at the store write timer. -/
def StoreWrite.tick (w : StoreWrite) : StoreWrite := { w with cycles := w.cycles - Config.clkPerCount }

/-- The store write timer has run out (R167). -/
def StoreWrite.isOut (w : StoreWrite) : Bool := w.cycles == 0

/-- The points whose period comes to its end in the count that passes next (R98). -/
def Plant.periodsEnding (pl : Plant) : List Point :=
  allPoints.filter fun p =>
    match pl.fan? p with
    | some f => f.atLastPhase
    | none => false

/-- One count, 20 CLKIN cycles, passes at the whole machine. -/
def State.countPasses (s : State) : State :=
  { s with
    periodEnds := s.plant.periodsEnding
    zones := tickZones s.zones
    plant := s.plant.tick
    write := s.write.map StoreWrite.tick }

/-- The commands due as the machine stands: of the timers that have run out, of the periods that have ended, and of a
joining report that waits (R129). -/
def dueCommands (s : State) : List Instr :=
  allZones.flatMap (fun z => (s.zone z).filter.timer.due (.zoneFilterTimerRunsOut z)) ++
    allPoints.flatMap (fun p => Channel.due p (s.periodEnds.contains p) (s.plant.chan p)) ++
    s.plant.sched.spacing.due .spacingTimerRunsOut ++
    s.plant.supply.filter.timer.due .supfailFilterTimerRunsOut ++
    s.plant.supply.settle.due .settleTimerRunsOut ++
    (if s.write.any StoreWrite.isOut then [.storeWriteCompletes] else []) ++
    (if s.plant.joinReports.isEmpty then [] else [.joiningReport])

/-- What the machine does when no command waits: while device reset is held, nothing (the time base restarts at its
end). Of the commands due, any one may be taken first (R150): a free choice puts ONE into the queue, and the others are
asked again when it has been taken, so that a timer that it loads again or cancels does not run out (R60, R61, R93,
R100). With none due, one count of the time base passes, unless CLKIN has stopped. -/
def State.idleStep (s : State) : State :=
  if s.held then s
  else
    match inFreeOrder s.plant.draws (dueCommands s) with
    | c :: _ => { s with pending := [c], plant := { s.plant with draws := s.plant.draws + 1 } }
    | [] => if s.clkin then s.countPasses else s

end Sys2Proof.Machine
end

