-- ==== Sys2Proof/Safety.lean ====
section
/-! DEFINITION. The terms the statements use: what a command leaves as it was, what a port at rest and an answered
order are, and what a sound state is: one predicate per promise that the manual makes of every moment (R9, R29, R40,
R51, R75, R103, R109, R115, R121, R138, R166, Tables 1-3, 3-2, 4-2). A promise about the sequencers is made of a
machine that is not held in reset, since their records take their state at its end (R151). -/

namespace Sys2Proof.Machine

/-! ## What a command leaves as it was -/

/-- Everything but the plant and the ports is as it was. -/
abbrev State.OutsidePlant (s t : State) : Prop :=
  t.held = s.held ∧ t.clkin = s.clkin ∧ t.periodEnds = s.periodEnds ∧ t.zones = s.zones ∧ t.alarms = s.alarms ∧
    t.store = s.store ∧ t.write = s.write ∧ t.pending = s.pending

/-- A port record that differs at most by markings: members may have joined its change sets (R145). -/
abbrev PortRec.Marked (r r' : PortRec) : Prop :=
  r' = { r with points := r'.points, zones := r'.zones } ∧
    (∀ p : Point, r.points[p] = true → r'.points[p] = true) ∧ ∀ z : Zone, r.zones[z] = true → r'.zones[z] = true

/-- Every port differs at most by markings. -/
abbrev State.PortsMarked (s t : State) : Prop := ∀ i : PortId, (s.port i).Marked (t.port i)

/-- A point is in the point change set of every port. -/
abbrev State.PointMarked (t : State) (p : Point) : Prop := ∀ i : PortId, (t.port i).points[p] = true

/-- A zone is in the zone change set of every port. -/
abbrev State.ZoneMarked (t : State) (z : Zone) : Prop := ∀ i : PortId, (t.port i).zones[z] = true

/-- The zones that an event from `s` to `t` marks are those of R18: each zone whose activity, isolation flag or list
position (joining and leaving among its changes) is not as it was is marked, and no other zone's membership of a change
set changes. Said of events in which no zone both leaves the list and joins it, which is of every event but ARST. -/
abbrev State.ZoneMarksExact (s t : State) : Prop :=
  ∀ z : Zone,
    let changed : Prop :=
      t.active z ≠ s.active z ∨ (t.zone z).isolated ≠ (s.zone z).isolated ∨
        (t.alarms.map AlarmEntry.zone).idxOf? z ≠ (s.alarms.map AlarmEntry.zone).idxOf? z
    (changed → t.ZoneMarked z) ∧ (¬changed → ∀ i : PortId, (t.port i).zones[z] = (s.port i).zones[z])

/-- Every FAN and DAMPER point whose resolved demand is not as it was, in action, speed, source or fire zone, is marked
(R24, R145). -/
abbrev State.DemandsMarked (s t : State) : Prop :=
  ∀ p : Point, t.store.kind p ≠ .unused → (t.plant.chan p).resolved ≠ (s.plant.chan p).resolved → t.PointMarked p

/-- The kind of a sequencer record. -/
def Equipment.kind : Equipment → Kind
  | .unused => .unused
  | .damper _ => .damper
  | .fan _ => .fan

/-- The feedback lines, the override entries, the normal-demand entries and the kinds of the records are as they
were. -/
abbrev Plant.EntriesKept (pl pl' : Plant) : Prop :=
  ∀ p : Point,
    (pl'.chan p).fba = (pl.chan p).fba ∧ (pl'.chan p).fbb = (pl.chan p).fbb ∧
      (pl'.chan p).override = (pl.chan p).override ∧ (pl'.chan p).normal = (pl.chan p).normal ∧
      (pl'.chan p).unit.kind = (pl.chan p).unit.kind

/-- No proof test is running. -/
abbrev State.NoTest (s : State) : Prop := s.plant.test.state ≠ .running

/-! ## Orders and their replies -/

/-- The command of an order. -/
def orderCommand (k : OrderKind) (i : PortId) (b1 b2 b3 : Byte) : Instr :=
  match k with
  | .qsys => .qsys i b1 b2 b3
  | .qalm => .qalm i b1 b2 b3
  | .qzon => .qzon i b1 b2 b3
  | .qpnt => .qpnt i b1 b2 b3
  | .nxch => .nxch i b1 b2 b3
  | .zalm => .zalm i b1 b2 b3
  | .arst => .arst i b1 b2 b3
  | .ziso => .ziso i b1 b2 b3
  | .zrin => .zrin i b1 b2 b3
  | .ovrd => .ovrd i b1 b2 b3
  | .oval => .oval i b1 b2 b3
  | .fzon => .fzon i b1 b2 b3
  | .eqrs => .eqrs i b1 b2 b3
  | .ndem => .ndem i b1 b2 b3
  | .ptst => .ptst i b1 b2 b3
  | .pthl => .pthl i b1 b2 b3
  | .ptrd => .ptrd i b1 b2 b3
  | .cmen => .cmen i b1 b2 b3
  | .cmlv => .cmlv i b1 b2 b3
  | .wpcf => .wpcf i b1 b2 b3
  | .wzcf => .wzcf i b1 b2 b3
  | .wscn => .wscn i b1 b2 b3
  | .wdcf => .wdcf i b1 b2 b3
  | .rpcf => .rpcf i b1 b2 b3
  | .rzcf => .rzcf i b1 b2 b3
  | .rscn => .rscn i b1 b2 b3
  | .rdcf => .rdcf i b1 b2 b3

/-- A port at rest outside device reset: its slots EMPTY, its pointers at 0, no order in progress. -/
abbrev State.PortAtRest (s : State) (i : PortId) : Prop :=
  s.held = false ∧ (s.port i).inSlots = Vector.replicate 4 none ∧ (s.port i).wptr = 0 ∧
    (s.port i).inProgress = none ∧ (s.port i).outSlots = Vector.replicate 4 none

/-- A port record with a reply in its output slots: the reply code with the flags as they stood, which are cleared,
and three result bytes (R142, Table 8-1). -/
def PortRec.withReply (c : ReplyCode) (x y z : Byte) (r : PortRec) : PortRec :=
  { r with
    outSlots := #v[some (byte (c.value + r.flagValue)), some x, some y, some z]
    rptr := 0
    overrun := false
    underrun := false
    short := false
    reset := false }

/-- The machine with a reply at a port. -/
def State.withReply (s : State) (i : PortId) (c : ReplyCode) (x y z : Byte) : State :=
  s.setPort i ((s.port i).withReply c x y z)

/-- The order is answered at its port, and otherwise the ports are as they were but for markings. -/
abbrev State.Answered (s t : State) (i : PortId) (c : ReplyCode) (x y z : Byte) : Prop :=
  (s.withReply i c x y z).PortsMarked t

/-! ## What falls due -/

/-- The command is due (R98, R129, R150, R167): its timer has run out; the fan's period ended in the last count and its
phase still stands there; the store write timer stands at 0; a joining report waits. -/
def State.Due (s : State) : Instr → Prop
  | .zoneFilterTimerRunsOut z => (s.zone z).filter.timer.isOut = true
  | .limitFilterTimerRunsOut p i => ∃ d, s.plant.damper? p = some d ∧ (d.filt i).timer.isOut = true
  | .strokeTimerRunsOut p => ∃ d, s.plant.damper? p = some d ∧ d.stroke.isOut = true
  | .gateTimerRunsOut p => ∃ f, s.plant.fan? p = some f ∧ f.proof.gate.isOut = true
  | .proofLimitTimerRunsOut p => ∃ f, s.plant.fan? p = some f ∧ f.proofLimit.isOut = true
  | .runDownTimerRunsOut p => ∃ f, s.plant.fan? p = some f ∧ f.runDown.isOut = true
  | .fbbFilterTimerRunsOut p => ∃ f, s.plant.fan? p = some f ∧ f.fbbFilt.timer.isOut = true
  | .periodBoundary p =>
    p ∈ s.periodEnds ∧ ∃ f, s.plant.fan? p = some f ∧ f.state.energised = true ∧ 199 ≤ f.speed.phase
  | .spacingTimerRunsOut => s.plant.sched.spacing.isOut = true
  | .supfailFilterTimerRunsOut => s.plant.supply.filter.timer.isOut = true
  | .settleTimerRunsOut => s.plant.supply.settle.isOut = true
  | .storeWriteCompletes => ∃ w, s.write = some w ∧ w.cycles = 0
  | .joiningReport => s.plant.joinReports ≠ []
  | _ => False

/-! ## Zones and the alarm list -/

/-- The alarm list holds no zone twice and no isolated zone (R9). -/
abbrev State.ListSound (s : State) : Prop :=
  (s.alarms.map AlarmEntry.zone).Nodup ∧ ∀ e ∈ s.alarms, (s.zone e.zone).isolated = false

/-- Every zone filter is PENDING exactly while the raw level differs from the filtered level (Table 1-3); while the
machine is held in reset a line moves without its filter. -/
abbrev State.ZoneFiltersSound (s : State) : Prop :=
  s.held = false → ∀ z : Zone, (s.zone z).filter.timer.isRunning = ((s.zone z).raw != (s.zone z).filter.filtered)

/-! ## The mode -/

/-- The alarm list is non-empty exactly when the mode is FIRE (R40), and a test is RUNNING exactly in TEST (R46). -/
abbrev State.ModeSound (s : State) : Prop :=
  (s.plant.mode = .fire ↔ s.alarms ≠ []) ∧ (s.plant.test.state = .running ↔ s.plant.mode = .test)

/-! ## The store -/

/-- A point record holds in each field a value of the range of Table 9-1. -/
abbrev PointCfg.InRange (c : PointCfg) : Prop :=
  (1 ≤ c.tSTK ∧ c.tSTK ≤ 255) ∧ c.tRD ≤ 255 ∧ (5 ≤ c.tPL ∧ c.tPL ≤ 120) ∧ (2 ≤ c.nGATE ∧ c.nGATE ≤ 64) ∧
    (1 ≤ c.nK ∧ c.nK ≤ 4) ∧ (5 ≤ c.nTOL ∧ c.nTOL ≤ 50) ∧ (5 ≤ c.nRATE ∧ c.nRATE ≤ 180) ∧
    (1 ≤ c.nPPR ∧ c.nPPR ≤ 8) ∧ (10 ≤ c.nMIN ∧ c.nMIN ≤ 50) ∧ (10 ≤ c.nOVS ∧ c.nOVS ≤ 100) ∧
    (1 ≤ c.nUNIT ∧ c.nUNIT ≤ 63) ∧ c.nSTG ≤ 7

/-- The device settings hold values of the ranges of Table 9-2. -/
abbrev DeviceCfg.InRange (c : DeviceCfg) : Prop :=
  (1 ≤ c.nALW ∧ c.nALW ≤ 63) ∧ c.nSPC ≤ 31 ∧ (1 ≤ c.tSET ∧ c.tSET ≤ 255) ∧ c.tFBF ≤ 15

/-- Each numeric field of the store holds a value of its range (R166); the other fields do so by their type. -/
abbrev State.StoreInRange (s : State) : Prop :=
  (∀ p : Point, (s.store.point p).InRange) ∧ (∀ z : Zone, (s.store.zone z).tZF ≤ 15) ∧ s.store.device.InRange

/-- The range of each field of a point record, by field code (Table 9-1): the enumerated fields by their codes, a path
entry with 64 for absent. -/
def pointFieldRanges : List (Nat × Nat) :=
  [(0, 2), (0, 2), (0, 1), (0, 2), (0, 1), (0, 2), (0, 64), (0, 64), (0, 64), (0, 64), (1, 255), (0, 255), (5, 120),
    (2, 64), (1, 4), (5, 50), (5, 180), (1, 8), (10, 50), (10, 100), (1, 63), (0, 7)]

/-- The range of each field of a zone record, by field code (Table 9-2). -/
def zoneFieldRanges : List (Nat × Nat) := [(0, 1), (0, 1), (0, 15)]

/-- The range of each device setting, by field code (Table 9-2). -/
def deviceFieldRanges : List (Nat × Nat) := [(1, 63), (0, 31), (1, 255), (0, 15)]

/-- The field is in the table and the value is outside its range. -/
abbrev outsideTable (table : List (Nat × Nat)) (field v : Nat) : Prop :=
  ∃ r, table[field]? = some r ∧ (v < r.1 ∨ r.2 < v)

/-! ## The ports -/

/-- The number of FULL slots at the front of four slots, if the FULL slots stand at the front. -/
def frontFull (v : Vector (Option Byte) 4) : Option Nat :=
  match v[0].isSome, v[1].isSome, v[2].isSome, v[3].isSome with
  | false, false, false, false => some 0
  | true, false, false, false => some 1
  | true, true, false, false => some 2
  | true, true, true, false => some 3
  | true, true, true, true => some 4
  | _, _, _, _ => none

/-- The number of EMPTY slots at the front of four slots, if the EMPTY slots stand at the front. -/
def frontEmpty (v : Vector (Option Byte) 4) : Option Nat :=
  match v[0].isSome, v[1].isSome, v[2].isSome, v[3].isSome with
  | true, true, true, true => some 0
  | false, true, true, true => some 1
  | false, false, true, true => some 2
  | false, false, false, true => some 3
  | false, false, false, false => some 4
  | _, _, _, _ => none

/-- A port record stands in one of the conditions of R138: slots 0 to p − 1 FULL and the rest EMPTY with the write
pointer at p, or all four FULL with it at 0; and the output slots hold the unread tail of at most one reply, from the
read pointer on. -/
abbrev PortRec.Shape (r : PortRec) : Prop :=
  (∃ k : Fin 5, frontFull r.inSlots = some k.val ∧ r.wptr.val = k.val % 4) ∧
    (∃ k : Fin 5, frontEmpty r.outSlots = some k.val ∧ r.rptr.val = k.val % 4)

/-- A complete order waits only behind a reply not yet read or an order in progress (R141). -/
abbrev PortRec.WaitsOnlyBehind (r : PortRec) : Prop :=
  r.completeOrder.isSome = true → r.free = false

/-- An order in progress leaves the output slots EMPTY (R141, R142). -/
abbrev PortRec.ProgressEmpty (r : PortRec) : Prop :=
  r.inProgress.isSome = true → r.replyWaiting = false

/-- The port records are sound (R138). While device reset is held, a complete order may stand where the order in
progress has been abandoned (R149); the end of the reset clears it. -/
abbrev State.PortsSound (s : State) : Prop :=
  ∀ i : PortId, (s.port i).Shape ∧ (s.held = false → (s.port i).WaitsOnlyBehind) ∧ (s.port i).ProgressEmpty

/-- A store write is in progress exactly while the B-port has an order in progress, and no other port has one
(R142, R167). -/
abbrev State.WriteSound (s : State) : Prop :=
  (s.write.isSome = (s.port .b).inProgress.isSome) ∧ (s.port .a).inProgress = none ∧ (s.port .f).inProgress = none

/-! ## Kinds, overrides, outputs -/

/-- Every point has the record of its stored kind (R50, R74, R171). -/
abbrev State.KindsSound (s : State) : Prop :=
  s.held = false → ∀ p : Point, (s.plant.chan p).unit.kind = s.store.kind p

/-- An UNUSED point has an empty demand and the override entry AUTO; a point has source OVERRIDE exactly while its
override entry is ON or OFF (R22, R29, R32). -/
abbrev State.OverridesSound (s : State) : Prop :=
  s.held = false → ∀ p : Point,
    (s.store.kind p = .unused → (s.plant.chan p).resolved = none ∧ (s.plant.chan p).override = .auto) ∧
      ((s.plant.chan p).resolved.map Demand.source = some .override ↔ (s.plant.chan p).override ≠ .auto)

/-- CMD as the point's record asks (R22, R51, R75); de-energised while device reset is held (R151). -/
abbrev State.CmdSound (s : State) : Prop :=
  ∀ p : Point,
    (s.plant.chan p).cmd =
      (!s.held &&
        match (s.plant.chan p).unit with
        | .unused => false
        | .damper d => damperCmd (s.store.point p) d
        | .fan f => f.state.energised)

/-- The law of R75: a fan is energised only under a GOOD supply, and with every path damper OPEN unless its source is
OVERRIDE. -/
abbrev State.InterlockSound (s : State) : Prop :=
  s.held = false → ∀ p : Point, ∀ f : Fan, s.plant.fan? p = some f → f.state.energised = true →
    s.plant.supply.state = .good ∧ (f.underOverride = true ∨ pathOpen s.store s.plant p = true)

/-! ## The sequencers' records -/

/-- A fan record as Table 4-2 gives it: its timers run, its wait reason and fault kind stand, and its reference and
counters are at rest, by its state; its drive-alarm flag is that of R89. The phase of a reference at rest is the model's
choice (assumption 30). -/
abbrev Fan.TableSound (c : PointCfg) (f : Fan) : Prop :=
  (f.runDown.isRunning = (f.state == .runDown)) ∧
    (f.proofLimit.isRunning = (f.state == .starting)) ∧
    (f.proof.gate.isRunning = f.state.energised) ∧
    (f.wait.isSome = true → f.state = .queued) ∧
    ((f.fault != .none) = (f.state == .fault)) ∧
    (f.driveAlarm = (driveFaultIndicated c f.fbbFilt.filtered && !f.state.energised)) ∧
    (f.state.energised = false → f.speed = .atRest ∧ f.proof.inRun = 0 ∧ f.proof.outRun = 0) ∧
    f.proof.count ≤ 4095 ∧ f.proof.inRun ≤ c.nK ∧ f.proof.outRun ≤ c.nK ∧ f.speed.phase < 200

/-- Every fan record is as Table 4-2 gives it. -/
abbrev State.FansSound (s : State) : Prop :=
  s.held = false → ∀ p : Point, ∀ f : Fan, s.plant.fan? p = some f → f.TableSound (s.store.point p)

/-- A damper record as Table 3-2 gives it: the stroke timer is idle in the proven states and in WAITFAN, TIMED is set
only in a proven state, and a state other than UNPROVEN is the one its held demand is carried out by. -/
abbrev Damper.TableSound (d : Damper) : Prop :=
  ((d.pos = .opened ∨ d.pos = .closed ∨ d.pos = .waitFan) → d.stroke = .idle) ∧
    (d.timed = true → d.pos = .opened ∨ d.pos = .closed) ∧
    ((d.pos = .opening ∨ d.pos = .opened) → d.held.map DamperHeld.target = some .openEnd) ∧
    ((d.pos = .closing ∨ d.pos = .closed ∨ d.pos = .waitFan) → d.held.map DamperHeld.target = some .closedEnd)

/-- Every damper record is as Table 3-2 gives it, and a damper in WAITFAN waits on a path fan that turns, with a
demand whose source is not OVERRIDE (R67, R68). -/
abbrev State.DampersSound (s : State) : Prop :=
  s.held = false → ∀ p : Point, ∀ d : Damper, s.plant.damper? p = some d →
    d.TableSound ∧
      (d.pos = .waitFan →
        anyPathFanTurning s.store s.plant p = true ∧ d.held.map DamperHeld.source ≠ some .override)

/-! ## Scheduler, supply, test -/

/-- The point is a fan in QUEUED. -/
def Plant.isQueued (pl : Plant) (q : Point) : Bool :=
  match pl.fan? q with
  | some f => f.state == .queued
  | none => false

/-- The units of the fans in STARTING (R109). -/
def startingUnits (st : Store) (pl : Plant) : Nat :=
  ((allPoints.filter pl.isStarting).map fun p => (st.point p).nUNIT).sum

/-- The start queue holds exactly the fans in QUEUED, each once, by stage and then point number (R103). -/
abbrev State.QueueSound (s : State) : Prop :=
  s.held = false →
    (∀ p : Point, p ∈ s.plant.sched.queue ↔ s.plant.isQueued p = true) ∧
      s.plant.sched.queue.Pairwise fun p q =>
        (s.store.point p).nSTG < (s.store.point q).nSTG ∨
          ((s.store.point p).nSTG = (s.store.point q).nSTG ∧ p.val < q.val)

/-- The allowance in use is the sum of the units of the fans in STARTING, and exceeds the limit in force only while
exactly one fan is in STARTING (R109, R110). -/
abbrev State.AllowanceSound (s : State) : Prop :=
  s.held = false →
    s.plant.sched.inUse = startingUnits s.store s.plant ∧
      (s.plant.sched.inUse ≤ s.plant.sched.limit ∨ s.plant.nStarting = 1)

/-- The settle timer runs exactly in SETTLING (Table 5-3), and SUPFAIL's filter is PENDING exactly while its raw level
differs from its filtered level, which is low exactly in FAILED (R114, R115). -/
abbrev State.SupplySound (s : State) : Prop :=
  s.held = false →
    (s.plant.supply.settle.isRunning = (s.plant.supply.state == .settling)) ∧
      (s.plant.supply.filter.timer.isRunning = (s.plant.supply.raw != s.plant.supply.filter.filtered)) ∧
      ((s.plant.supply.filter.filtered == .low) = (s.plant.supply.state == .failed))

/-- The test record's results stand in strictly ascending point order within the range, and the failed count is the
number of FAIL outcomes (R121); while the state is RUNNING every entry is of a point before the current one. -/
abbrev State.TestSound (s : State) : Prop :=
  (s.plant.test.results.Pairwise fun a b => a.point.val < b.point.val) ∧
    (∀ e ∈ s.plant.test.results,
      s.plant.test.first ≤ e.point.val ∧ e.point.val < s.plant.test.first + s.plant.test.count) ∧
    s.plant.test.failed = (s.plant.test.results.filter fun e => e.outcome.failed).length ∧
    (s.plant.test.state = .running →
      (∃ p, s.plant.test.current = some p ∧ s.plant.test.first ≤ p.val ∧
        p.val < s.plant.test.first + s.plant.test.count ∧
        ∀ e ∈ s.plant.test.results, e.point.val < p.val) ∧
      s.plant.test.step.isSome = true ∧ s.plant.test.home.isSome = true) ∧
    (s.plant.test.state ≠ .running → s.plant.test.step = none ∧ s.plant.test.home = none)

end Sys2Proof.Machine
end

