-- ==== Sys2Proof/Certificates/Slice0/Obligations.lean ====
section
/-! DEFINITION. The statements for the provers, in the order of OBLIGATIONS.json. Each says of a command what the next
state is, in the numbers and records of the manual, and what it leaves as it was. Where a statement needs the machine
to be one that its own steps can bring about, the soundness it needs (Safety.lean) is a premise, and that every step
keeps that soundness is a statement of its own. An order's command is the ends of its four WR strobes with SEL active
(assumption 13); a statement about an order is made at a port at rest, and those about the strobes cover a busy one. A
timer's running-out is a command, which acts while its timer runs (assumption 22). -/

open Sys2Proof Sys2Proof.Machine

/-! ## Steps and time -/

/-- One step takes the command at the front of the queue and runs it with the queue's rest. The queue is the model's
own (assumption 1); that a command is one event at the block that owns the state is 00_scope's convention. -/
def Obligations.StepRunsFrontCommand : Prop :=
  ∀ (c : Instr) (rest : List Instr) (s : State),
    step { s with pending := c :: rest } = exec c { s with pending := rest }

/-- A timer loaded with `n` eighths, `n` at least 1, runs out when exactly `n` times 25 000 counts of 5 µs, which is
`n` times 500 000 CLKIN cycles, have elapsed since its loading, and not before; a load of 0 leaves it idle (R150). What
one step does on an empty queue is the model's choice (assumptions 1 and 2): if a command is due, which the timers that
have run out, the periods that have ended, the store write timer at 0 and a waiting joining report make it, one of those
due is put into the queue and nothing else happens; with none due one count passes at every timer, at the period of
every energised fan and, as 20 CLKIN cycles, at the store write timer (R150, R167), and no line, output, list, record or
port changes otherwise; with none due and CLKIN stopped nothing changes (R150, assumption 29). -/
def Obligations.TimerRunsOutExactly : Prop :=
  (Timer.load 0 = .idle ∧
    ∀ n k : Nat, 0 < n → k ≤ n * 25000 →
      ((Nat.repeat Timer.tick k (Timer.load n)).isOut = true ↔ k = n * 25000)) ∧
  ∀ s : State, s.held = false → s.pending = [] →
    let counted : Filter → Filter := fun f => { f with timer := f.timer.tick }
    ∃ t, step s = .next t ∧
      ((∃ c, s.Due c) →
        ∃ c, s.Due c ∧ t = { s with pending := [c], plant := { s.plant with draws := s.plant.draws + 1 } }) ∧
      ((∀ c, ¬s.Due c) → s.clkin = false → t = s) ∧
      ((∀ c, ¬s.Due c) → s.clkin = true →
        (∀ z : Zone, t.zone z = { s.zone z with filter := counted (s.zone z).filter }) ∧
        (∀ p : Point, t.plant.chan p =
          { s.plant.chan p with
            unit := match (s.plant.chan p).unit with
              | .unused => .unused
              | .damper d =>
                .damper { d with
                  stroke := d.stroke.tick, fbaFilt := counted d.fbaFilt, fbbFilt := counted d.fbbFilt }
              | .fan f =>
                .fan { f with
                  runDown := f.runDown.tick
                  proofLimit := f.proofLimit.tick
                  fbbFilt := counted f.fbbFilt
                  proof := { f.proof with gate := f.proof.gate.tick }
                  speed :=
                    if f.state.energised = true ∧ f.speed.phase < 199 then
                      { f.speed with phase := f.speed.phase + 1 }
                    else f.speed } }) ∧
        (∀ p : Point, p ∈ t.periodEnds ↔
          ∃ f, s.plant.fan? p = some f ∧ f.state.energised = true ∧ 199 ≤ f.speed.phase) ∧
        t = { s with
          periodEnds := t.periodEnds
          zones := t.zones
          plant := { s.plant with
            chans := t.plant.chans
            sched := { s.plant.sched with spacing := s.plant.sched.spacing.tick }
            supply := { s.plant.supply with
              filter := counted s.plant.supply.filter, settle := s.plant.supply.settle.tick } }
          write := s.write.map fun w => { w with cycles := w.cycles - 20 } })

/-! ## Zone lines and the alarm list -/

/-- A change of a zone's raw level (R2) and of the raw SUPFAIL level (R114): from the filtered level, the filter timer
is loaded with tZF or tFBF; back to the filtered level, the timer is cancelled. Nothing else changes. A filter time of 0
runs out within the event: the outcome is that of the timer's running out. -/
def Obligations.RawChangesFilter : Prop :=
  (∀ (s : State) (z : Zone) (level : Level), s.held = false → (s.zone z).raw ≠ level →
    let line : Timer → ZoneLine := fun x =>
      { s.zone z with raw := level, filter := { filtered := (s.zone z).filter.filtered, timer := x } }
    let o := exec (.zoneRawLevelChange z level) s
    ((s.zone z).filter.filtered ≠ level → 0 < (s.store.zone z).tZF →
      o = .next (s.setZone z (line (.running (s.store.zone z).tZF 0)))) ∧
    ((s.zone z).filter.filtered ≠ level → (s.store.zone z).tZF = 0 →
      o = exec (.zoneFilterTimerRunsOut z) (s.setZone z (line (.running 0 0)))) ∧
    ((s.zone z).filter.filtered = level → o = .next (s.setZone z (line .idle)))) ∧
  ∀ (s : State) (level : Level), s.held = false → s.plant.supply.raw ≠ level →
    let with' : Timer → State := fun x =>
      { s with
        plant := { s.plant with
          supply := { s.plant.supply with raw := level, filter := { s.plant.supply.filter with timer := x } } } }
    let o := exec (.supfailRawLevelChange level) s
    (s.plant.supply.filter.filtered ≠ level → 0 < s.store.device.tFBF →
      o = .next (with' (.running s.store.device.tFBF 0))) ∧
    (s.plant.supply.filter.filtered ≠ level → s.store.device.tFBF = 0 →
      o = exec .supfailFilterTimerRunsOut (with' (.running 0 0))) ∧
    (s.plant.supply.filter.filtered = level → o = .next (with' .idle))

/-- A zone's filter timer runs out in PENDING (R3): the filtered level takes the raw level, the filter is SETTLED, the
zone is marked; the alarm list takes a line arrival or a line clear by the new activity, and is not reached for an
isolated zone, whose event leaves the plant as it was. The zones that R18 names are marked and no other, and so is every
point whose resolved demand changes (R24). -/
def Obligations.ZoneFilterRunsOut : Prop :=
  ∀ (s : State) (z : Zone), s.held = false → (s.zone z).filter.timer.isRunning = true →
    (s.zone z).raw ≠ (s.zone z).filter.filtered →
    ∃ t, exec (.zoneFilterTimerRunsOut z) s = .next t ∧
      t.zone z = { s.zone z with filter := { filtered := (s.zone z).raw, timer := .idle } } ∧
      (∀ z', z' ≠ z → t.zone z' = s.zone z') ∧
      t.alarms =
        (if (s.zone z).isolated then s.alarms
        else if activityOf (s.store.zone z).contact (s.zone z).raw then lineArrival (s.store.zone z).mode z s.alarms
        else lineClear z s.alarms) ∧
      ((s.zone z).isolated = true → t.plant = s.plant) ∧
      t.ZoneMarked z ∧ s.ZoneMarksExact t ∧ s.DemandsMarked t ∧ s.PortsMarked t ∧ s.plant.EntriesKept t.plant ∧
      t.held = s.held ∧ t.store = s.store ∧ t.write = s.write ∧ t.pending = s.pending

/-- A line arrival (R11): an absent zone is appended with origin LINE, latched by the mode; a present zone keeps its
position and origin, and every entry is as it was but for the zone's latched flag, set if the mode is LATCH. A line
clear (R12): of a list that holds no zone twice it removes exactly the zone's entry, if that is not latched, and the
others keep their order. -/
def Obligations.LineEventsAtTheList : Prop :=
  ∀ (z : Zone) (l : List AlarmEntry),
    (∀ m : ZoneMode,
      (z ∉ l.map AlarmEntry.zone →
        lineArrival m z l = l ++ [{ zone := z, origin := .line, latched := m == .latch }]) ∧
      (z ∈ l.map AlarmEntry.zone →
        (lineArrival m z l).length = l.length ∧
          ∀ (k : Nat) (e : AlarmEntry), l[k]? = some e →
            (lineArrival m z l)[k]? =
              some { e with latched := e.latched || (e.zone == z && m == .latch) })) ∧
    ((l.map AlarmEntry.zone).Nodup →
      (∀ e ∈ l, e.zone = z → e.latched = true → lineClear z l = l) ∧
      (∀ (a b : List AlarmEntry) (e : AlarmEntry), l = a ++ e :: b → e.zone = z → e.latched = false →
        lineClear z l = a ++ b) ∧
      (z ∉ l.map AlarmEntry.zone → lineClear z l = l))

/-- ZALM of a zone that is not isolated (R13, R161): an absent zone is appended with origin PORT and latched; of a
present one the entry is latched in its place with its origin. The reply is DONE, given after the device has entered
FIRE. For an isolated zone the order is refused with ISOLATED. The zone is marked if it joins the list and no other is
(R18); every point whose resolved demand changes is marked (R24). -/
def Obligations.ZalmRaisesAlarm : Prop :=
  ∀ (s : State) (z : Zone) (b2 b3 : Byte), s.PortAtRest .a →
    ((s.zone z).isolated = true →
      exec (.zalm .a (byte z.val) b2 b3) s = .next (s.withReply .a .isolated (byte z.val) b2 b3)) ∧
    ((s.zone z).isolated = false → s.ModeSound →
      ∃ t, exec (.zalm .a (byte z.val) b2 b3) s = .next t ∧ s.Answered t .a .done (byte z.val) b2 b3 ∧
        t.alarms =
          (if z ∈ s.alarms.map AlarmEntry.zone then
            s.alarms.map fun e => if e.zone = z then { e with latched := true } else e
          else s.alarms ++ [{ zone := z, origin := .port, latched := true }]) ∧
        t.plant.mode = .fire ∧ s.ZoneMarksExact t ∧ s.DemandsMarked t ∧
        s.plant.EntriesKept t.plant ∧
        t.held = s.held ∧ t.zones = s.zones ∧ t.store = s.store ∧ t.write = s.write ∧ t.pending = s.pending)

/-- FZON of a zone that is not isolated (R14, R162): the zone stands latched at position 0, with its own entry's
origin if it had one and else FIREFIGHTER, and the other entries follow in their relative order. For an isolated zone
the order is refused with ISOLATED. Exactly the zones whose list position is not as it was, those passed over by the
zone among them, are marked (R18); every point whose resolved demand changes is marked (R24). -/
def Obligations.FzonLeads : Prop :=
  ∀ (s : State) (z : Zone) (b2 b3 : Byte), s.PortAtRest .f →
    ((s.zone z).isolated = true →
      exec (.fzon .f (byte z.val) b2 b3) s = .next (s.withReply .f .isolated (byte z.val) b2 b3)) ∧
    ((s.zone z).isolated = false → (s.alarms.map AlarmEntry.zone).Nodup →
      ∃ t, exec (.fzon .f (byte z.val) b2 b3) s = .next t ∧ s.Answered t .f .done (byte z.val) b2 b3 ∧
        (z ∉ s.alarms.map AlarmEntry.zone →
          t.alarms = { zone := z, origin := .firefighter, latched := true } :: s.alarms) ∧
        (∀ (a b : List AlarmEntry) (e : AlarmEntry), s.alarms = a ++ e :: b → e.zone = z →
          t.alarms = { e with latched := true } :: (a ++ b)) ∧
        s.ZoneMarksExact t ∧ s.DemandsMarked t ∧ s.plant.EntriesKept t.plant ∧
        t.held = s.held ∧ t.zones = s.zones ∧ t.store = s.store ∧ t.write = s.write ∧ t.pending = s.pending)

/-- ARST (R16, R161): the unlatched entries stay in their order, latched if their zone is to be re-alarmed; then come,
in ascending number, the zones that are not isolated, of mode LATCH and active, that are not among them, each with
origin LINE and latched. Exactly these zones are marked (R18): each that the first step removes, which leaves the list
whether or not it is re-alarmed, and each that has joined the list or stands at another position at the end of the
event. Every point whose resolved demand changes is marked (R24). -/
def Obligations.ArstTwoSteps : Prop :=
  ∀ (s : State) (b1 b2 b3 : Byte), s.PortAtRest .a →
    let again : Zone → Bool := fun z =>
      !(s.zone z).isolated && (s.store.zone z).mode == .latch && s.active z
    let kept := s.alarms.filter fun e => !e.latched
    ∃ t, exec (.arst .a b1 b2 b3) s = .next t ∧ s.Answered t .a .done b1 b2 b3 ∧
      t.alarms =
        (kept.map fun e => { e with latched := e.latched || again e.zone }) ++
          ((allZones.filter fun z => again z && !(kept.map AlarmEntry.zone).contains z).map fun z =>
            { zone := z, origin := .line, latched := true }) ∧
      (∀ z : Zone,
        let moved : Prop :=
          (∃ e ∈ s.alarms, e.zone = z ∧ e.latched = true) ∨
            (t.alarms.map AlarmEntry.zone).idxOf? z ≠ (s.alarms.map AlarmEntry.zone).idxOf? z
        (moved → t.ZoneMarked z) ∧ (¬moved → ∀ j : PortId, (t.port j).zones[z] = (s.port j).zones[z])) ∧
      s.DemandsMarked t ∧ s.plant.EntriesKept t.plant ∧
      t.held = s.held ∧ t.zones = s.zones ∧ t.store = s.store ∧ t.write = s.write ∧ t.pending = s.pending

/-- ZISO (R6, R161): the isolation flag is set and the zone's entry leaves the list, the others keeping their order;
the zone's line and filter are as they were. For an isolated zone the order is refused with STATE. ZRIN (R7, R161): the
isolation flag is cleared, and an active zone makes a line arrival. For a zone that is not isolated the order is refused
with STATE. The zone is marked, with exactly the zones whose list position is not as it was (R18), as is every point
whose resolved demand changes (R24). -/
def Obligations.IsolationAndReturn : Prop :=
  ∀ (s : State) (z : Zone) (b2 b3 : Byte), s.PortAtRest .a →
    let ziso := exec (.ziso .a (byte z.val) b2 b3) s
    let zrin := exec (.zrin .a (byte z.val) b2 b3) s
    let refused := Host.Outcome.next (s.withReply .a .state (byte z.val) b2 b3)
    ((s.zone z).isolated = true →
      ziso = refused ∧
        ∃ t, zrin = .next t ∧ s.Answered t .a .done (byte z.val) b2 b3 ∧
          t.zone z = { s.zone z with isolated := false } ∧ (∀ z', z' ≠ z → t.zone z' = s.zone z') ∧
          t.alarms = (if s.active z then lineArrival (s.store.zone z).mode z s.alarms else s.alarms) ∧
          t.ZoneMarked z ∧ s.ZoneMarksExact t ∧ s.DemandsMarked t ∧ s.plant.EntriesKept t.plant ∧
          t.held = s.held ∧ t.store = s.store ∧ t.write = s.write ∧ t.pending = s.pending) ∧
    ((s.zone z).isolated = false →
      zrin = refused ∧
        ∃ t, ziso = .next t ∧ s.Answered t .a .done (byte z.val) b2 b3 ∧
          t.zone z = { s.zone z with isolated := true } ∧ (∀ z', z' ≠ z → t.zone z' = s.zone z') ∧
          t.alarms = s.alarms.filter (fun e => e.zone ≠ z) ∧ t.ZoneMarked z ∧
          s.ZoneMarksExact t ∧ s.DemandsMarked t ∧ s.plant.EntriesKept t.plant ∧
          t.held = s.held ∧ t.store = s.store ∧ t.write = s.write ∧ t.pending = s.pending)

/-- Every step keeps the alarm list sound: no zone twice, no isolated zone (R9). -/
def Obligations.AlarmListStaysSound : Prop :=
  ∀ s t : State, s.ListSound → step s = .next t → t.ListSound

/-! ## The plan resolver -/

/-- The merge (R26, R27): the first zone of the list whose scenario entry for the point is not NONE gives the fire
demand, with source FIRE and that zone; where there is none, the unassigned action does, with source UNASSIGNED. An
action is read across to the point's kind (Table 2-2) and a RUN below nMIN raised to nMIN (R23), for a record whose nMIN
is in its range. -/
def Obligations.MergeAndReadAcross : Prop :=
  (∀ (st : Store) (l : List AlarmEntry) (p : Point) (normal : Action),
    (∀ (a b : List AlarmEntry) (e : AlarmEntry) (x : Action), l = a ++ e :: b →
      (∀ y ∈ a, st.entry y.zone p = none) → st.entry e.zone p = some x →
      fireDemand { store := st, alarms := l } p normal =
        { action := x.inForm (st.point p), source := .fire, fireZone := some e.zone }) ∧
    ((∀ y ∈ l, st.entry y.zone p = none) →
      fireDemand { store := st, alarms := l } p normal =
        { action :=
            match (st.point p).unassigned, (st.point p).kind with
            | .normal, _ => normal.inForm (st.point p)
            | .active, .fan => .run (max (st.point p).nOVS (st.point p).nMIN)
            | .active, _ => .toOpen
            | .rest, .fan => .stop
            | .rest, _ => .toClose
          source := .unassigned
          fireZone := none })) ∧
  ∀ (c : PointCfg) (n : Nat), c.nMIN ≤ 50 →
    (c.kind = .fan →
      Action.toOpen.inForm c = .run 100 ∧ Action.toClose.inForm c = .stop ∧ Action.stop.inForm c = .stop ∧
        (Action.run n).inForm c = .run (if n < c.nMIN then c.nMIN else n)) ∧
    (c.kind = .damper →
      Action.toOpen.inForm c = .toOpen ∧ Action.toClose.inForm c = .toClose ∧ Action.stop.inForm c = .toClose ∧
        (Action.run n).inForm c = .toOpen)

/-- OVRD with a changed entry (R30, R162): the entry is set and no other; the point's demand becomes the override
demand of R29, or one of another source on AUTO, and a point whose resolved demand changes is in the point change sets
of all three ports (R24, R145). An unchanged entry changes nothing and is answered DONE; ON or OFF for an UNUSED point
is refused with STATE. -/
def Obligations.OvrdSetsOverride : Prop :=
  ∀ (s : State) (p : Point) (v : Override) (b3 : Byte), s.PortAtRest .f →
    let c := s.store.point p
    let o := exec (.ovrd .f (byte p.val) (byte v.code) b3) s
    (v ≠ .auto → c.kind = .unused → o = .next (s.withReply .f .state (byte p.val) (byte v.code) b3)) ∧
    ((v = .auto ∨ c.kind ≠ .unused) → (s.plant.chan p).override = v →
      o = .next (s.withReply .f .done (byte p.val) (byte v.code) b3)) ∧
    (c.kind ≠ .unused → (s.plant.chan p).override ≠ v →
      ∃ t, o = .next t ∧ s.Answered t .f .done (byte p.val) (byte v.code) b3 ∧ s.OutsidePlant t ∧ s.DemandsMarked t ∧
        (t.plant.chan p).override = v ∧
        (∀ q, q ≠ p → (t.plant.chan q).override = (s.plant.chan q).override) ∧
        (∀ q, (t.plant.chan q).normal = (s.plant.chan q).normal ∧ (t.plant.chan q).fba = (s.plant.chan q).fba ∧
          (t.plant.chan q).fbb = (s.plant.chan q).fbb) ∧
        (match v with
          | .on =>
            (t.plant.chan p).resolved =
              some
                { action := if c.kind = .fan then .run (max c.nOVS c.nMIN) else .toOpen
                  source := .override
                  fireZone := none }
          | .off =>
            (t.plant.chan p).resolved =
              some
                { action := if c.kind = .fan then .stop else .toClose
                  source := .override
                  fireZone := none }
          | .auto => (t.plant.chan p).resolved.map Demand.source ≠ some .override))

/-- OVAL (R31, R162): every entry is AUTO afterwards, and a FAN or DAMPER point whose entry was ON or OFF has a demand
whose source is not OVERRIDE. Every point whose resolved demand changes is marked (R24). -/
def Obligations.OvalReleasesAll : Prop :=
  ∀ (s : State) (b1 b2 b3 : Byte), s.PortAtRest .f →
    ∃ t, exec (.oval .f b1 b2 b3) s = .next t ∧ s.Answered t .f .done b1 b2 b3 ∧ s.OutsidePlant t ∧ s.DemandsMarked t ∧
      ∀ p : Point,
        (t.plant.chan p).override = .auto ∧
          ((s.plant.chan p).override ≠ .auto → s.store.kind p ≠ .unused →
            (t.plant.chan p).resolved.map Demand.source ≠ some .override) ∧
          (t.plant.chan p).normal = (s.plant.chan p).normal ∧ (t.plant.chan p).fba = (s.plant.chan p).fba ∧
          (t.plant.chan p).fbb = (s.plant.chan p).fbb

/-- NDEM (R33, R34, R163): outside COMMISSION the entry is replaced by the action as written, and no other entry. In
NORMAL, with the point's override AUTO, the point's demand becomes the new entry put into form, with source NORMAL; a
changed demand marks its point (R24). In COMMISSION the order is refused with MODE, and the value NONE with RANGE in any
mode. -/
def Obligations.NdemStoresEntry : Prop :=
  ∀ (s : State) (p : Point) (x b3 : Byte), s.PortAtRest .b →
    let o := exec (.ndem .b (byte p.val) x b3) s
    (x = 0#8 → o = .next (s.withReply .b .range (byte p.val) x b3)) ∧
    ∀ a : Action, actionOf x = some (some a) →
      (s.plant.mode = .commission → o = .next (s.withReply .b .mode (byte p.val) x b3)) ∧
      (s.plant.mode ≠ .commission →
        ∃ t, o = .next t ∧ s.Answered t .b .done (byte p.val) x b3 ∧ s.OutsidePlant t ∧
          s.DemandsMarked t ∧
          (t.plant.chan p).normal = a ∧
          (∀ q, q ≠ p → (t.plant.chan q).normal = (s.plant.chan q).normal) ∧
          (∀ q, (t.plant.chan q).override = (s.plant.chan q).override ∧
            (t.plant.chan q).fba = (s.plant.chan q).fba ∧ (t.plant.chan q).fbb = (s.plant.chan q).fbb) ∧
          (s.plant.mode = .normal → s.NoTest → s.store.kind p ≠ .unused → (s.plant.chan p).override = .auto →
            (s.plant.chan p).normal ≠ a →
            (t.plant.chan p).resolved =
              some { action := a.inForm (s.store.point p), source := .normal, fireZone := none }) ∧
          (s.plant.mode = .restore → t.plant = { s.plant with chans := t.plant.chans } ∧
            ∀ q, (t.plant.chan q).resolved = (s.plant.chan q).resolved))

/-- Every step keeps the mode in its relation to the alarm list and to the test: the list is non-empty exactly when
the mode is FIRE (R40), and a test is RUNNING exactly in TEST (R46). -/
def Obligations.ModeStaysSound : Prop :=
  ∀ s t : State, s.ModeSound → step s = .next t → t.ModeSound

/-- Every step keeps the overrides sound: a point has source OVERRIDE exactly while its override entry is ON or OFF
(R29), and an UNUSED point has an empty demand and the entry AUTO (R22, R32). -/
def Obligations.OverridesStaySound : Prop :=
  ∀ s t : State, s.KindsSound ∧ s.OverridesSound → step s = .next t → t.KindsSound ∧ t.OverridesSound

/-- CMEN and CMLV (R47, R163): in its mode each changes the mode, between NORMAL and COMMISSION, and marks every point
whose resolved demand changes (R24); in any other mode it is refused with MODE and changes nothing. -/
def Obligations.CommissionEntered : Prop :=
  ∀ (s : State) (b1 b2 b3 : Byte), s.PortAtRest .b →
    (s.plant.mode ≠ .normal → exec (.cmen .b b1 b2 b3) s = .next (s.withReply .b .mode b1 b2 b3)) ∧
    (s.plant.mode ≠ .commission → exec (.cmlv .b b1 b2 b3) s = .next (s.withReply .b .mode b1 b2 b3)) ∧
    (s.plant.mode = .normal → s.NoTest →
      ∃ t, exec (.cmen .b b1 b2 b3) s = .next t ∧ s.Answered t .b .done b1 b2 b3 ∧ s.OutsidePlant t ∧
        t.plant.mode = .commission ∧ s.plant.EntriesKept t.plant ∧ s.DemandsMarked t) ∧
    (s.plant.mode = .commission → s.NoTest →
      ∃ t, exec (.cmlv .b b1 b2 b3) s = .next t ∧ s.Answered t .b .done b1 b2 b3 ∧ s.OutsidePlant t ∧
        t.plant.mode = .normal ∧ s.plant.EntriesKept t.plant ∧ s.DemandsMarked t)

/-- FIRE, RESTORE and NORMAL. A ZALM that enters a zone in the list, as the arrival here, resolves every point from the
merge and stores each fire demand as the point's last fire demand, whatever its override (R28, R38). The line clear that
empties the list, as the clear here, begins RESTORE (R42): a fan is handed STOP and a damper its last fire demand, or
CLOSE if there is none, with source RESTORE, while a fan of the plant still turns (R43). As the last such fan comes to
IDLE the mode becomes NORMAL and every point is handed its normal demand (R44). In each of the three, every point whose
resolved demand changes is in the point change sets of all three ports (R24, R145). -/
def Obligations.RestoreCycle : Prop :=
  ∀ s : State, s.held = false →
    (∀ (z : Zone) (b2 b3 : Byte), s.PortAtRest .a → s.ModeSound → (s.zone z).isolated = false →
      z ∉ s.alarms.map AlarmEntry.zone →
      ∃ t, exec (.zalm .a (byte z.val) b2 b3) s = .next t ∧ s.DemandsMarked t ∧
        ∀ p : Point, s.store.kind p ≠ .unused →
          let list := s.alarms ++ [{ zone := z, origin := .port, latched := true }]
          let d := fireDemand { store := s.store, alarms := list } p (s.plant.chan p).normal
          (t.plant.chan p).lastFire = some d.action ∧
            ((s.plant.chan p).override = .auto → (t.plant.chan p).resolved = some d)) ∧
    (∀ e : AlarmEntry, s.plant.mode = .fire → s.NoTest → s.alarms = [e] → e.latched = false →
      (s.zone e.zone).isolated = false → (s.zone e.zone).filter.timer.isRunning = true →
      (s.zone e.zone).raw ≠ (s.zone e.zone).filter.filtered → s.active e.zone = true →
      (∃ (q : Point) (f : Fan), s.plant.fan? q = some f ∧ f.state.turning = true ∧ 0 < (s.store.point q).tRD) →
      ∃ t, exec (.zoneFilterTimerRunsOut e.zone) s = .next t ∧ t.alarms = [] ∧ t.plant.mode = .restore ∧
        s.DemandsMarked t ∧
        ∀ p : Point, s.store.kind p ≠ .unused → (s.plant.chan p).override = .auto →
          (t.plant.chan p).lastFire = (s.plant.chan p).lastFire ∧
            (t.plant.chan p).resolved =
              some
                { action :=
                    if s.store.kind p = .fan then .stop
                    else ((s.plant.chan p).lastFire.getD .toClose).inForm (s.store.point p)
                  source := .restore
                  fireZone := none }) ∧
    (∀ (p : Point) (f : Fan), s.plant.mode = .restore → s.NoTest → s.plant.fan? p = some f → f.state = .runDown →
      f.runDown.isRunning = true → f.wantsRun = false →
      (∀ (q : Point) (g : Fan), q ≠ p → s.plant.fan? q = some g → g.state = .idle ∨ g.state = .fault) →
      ∃ t, exec (.runDownTimerRunsOut p) s = .next t ∧ t.plant.mode = .normal ∧ s.DemandsMarked t ∧
        ∀ q : Point, s.store.kind q ≠ .unused → (s.plant.chan q).override = .auto →
          (t.plant.chan q).resolved =
            some { action := (s.plant.chan q).normal.inForm (s.store.point q), source := .normal, fireZone := none })

/-! ## Dampers -/

/-- A change of the raw level at a damper's limit input (R52, R53) and at a fan's drive-fault contact (R89): an input
that is read has its filter timer loaded with tFBF, or cancelled on a return to the filtered level; a tFBF of 0 runs out
within the event. At an input that the arrangement or the contact field does not read, and at an UNUSED point, only the
line moves. -/
def Obligations.FeedbackChangesFilter : Prop :=
  ∀ (s : State) (p : Point) (level : Level), s.held = false → s.CmdSound →
    (∀ i : LimitInput, (s.plant.chan p).line i ≠ level →
      let moved := (s.plant.chan p).setLine i level
      let o := exec (.limitRawLevelChange p i level) s
      ((s.plant.chan p).unit = .unused → o = .next { s with plant := s.plant.setChan p moved }) ∧
      ∀ d : Damper, (s.plant.chan p).unit = .damper d →
        let with' : Timer → State := fun x =>
          { s with
            plant := s.plant.setChan p { moved with unit := .damper (d.setFilt i { d.filt i with timer := x }) } }
        ((s.store.point p).readsLimit i = false → o = .next { s with plant := s.plant.setChan p moved }) ∧
        ((s.store.point p).readsLimit i = true →
          ((d.filt i).filtered ≠ level → 0 < s.store.device.tFBF →
            o = .next (with' (.running s.store.device.tFBF 0))) ∧
          ((d.filt i).filtered ≠ level → s.store.device.tFBF = 0 →
            o = exec (.limitFilterTimerRunsOut p i) (with' (.running 0 0))) ∧
          ((d.filt i).filtered = level → o = .next (with' .idle)))) ∧
    ∀ f : Fan, s.FansSound → (s.plant.chan p).unit = .fan f → (s.plant.chan p).fbb ≠ level →
      let o := exec (.fbbRawLevelChange p level) s
      let with' : Timer → State := fun x =>
        { s with
          plant := s.plant.setChan p
            { s.plant.chan p with fbb := level, unit := .fan { f with fbbFilt := { f.fbbFilt with timer := x } } } }
      ((s.store.point p).driveContact = .none → o = .next (with' f.fbbFilt.timer)) ∧
      ((s.store.point p).driveContact ≠ .none →
        (f.fbbFilt.filtered ≠ level → 0 < s.store.device.tFBF →
          o = .next (with' (.running s.store.device.tFBF 0))) ∧
        (f.fbbFilt.filtered ≠ level → s.store.device.tFBF = 0 →
          o = exec (.fbbFilterTimerRunsOut p) (with' (.running 0 0))) ∧
        (f.fbbFilt.filtered = level → o = .next (with' .idle)))

/-- A damper limit's filter timer runs out with the raw level changed (R53, R69, R86): the limit takes the raw level,
the damper record has its limit event, CMD follows it, and a change of position state, fault or TIMED marks the point.
A damper that so leaves OPEN trips its path fans: each that is energised, with a source other than OVERRIDE and tRD
above 0, stands in RUNDOWN with its full tRD, its held demand and CMD de-energised. A damper that does not leave OPEN
leaves every fan as it was but for a start out of QUEUED. -/
def Obligations.LimitFilterRunsOut : Prop :=
  ∀ (s : State) (p : Point) (i : LimitInput) (d : Damper), s.held = false → s.NoTest → s.plant.mode ≠ .restore →
    s.QueueSound → s.plant.damper? p = some d → (d.filt i).timer.isRunning = true →
    (s.plant.chan p).line i ≠ (d.filt i).filtered →
    let c := s.store.point p
    let x := (d.setFilt i { filtered := (s.plant.chan p).line i, timer := .idle }).limitEvent c i
    ∃ t, exec (.limitFilterTimerRunsOut p i) s = .next t ∧ t.plant.damper? p = some x ∧
      (t.plant.chan p).cmd = damperCmd c x ∧
      (x.pos ≠ d.pos ∨ x.fault ≠ d.fault ∨ x.timed ≠ d.timed → t.PointMarked p) ∧
      (d.pos = .opened → x.pos ≠ .opened →
        ∀ (q : Point) (f : Fan), q ∈ s.store.pathFans p → s.plant.fan? q = some f → f.state.energised = true →
          f.underOverride = false → 0 < (s.store.point q).tRD →
          ∃ f', t.plant.fan? q = some f' ∧ f'.state = .runDown ∧
            f'.runDown = .running (8 * (s.store.point q).tRD) 0 ∧ f'.held = f.held ∧ (t.plant.chan q).cmd = false ∧
            t.PointMarked q) ∧
      (d.pos ≠ .opened ∨ x.pos = .opened →
        ∀ (q : Point) (f : Fan), s.plant.fan? q = some f → f.state ≠ .queued → t.plant.fan? q = some f) ∧
      (∀ (q : Point) (y : Damper), q ≠ p → s.plant.damper? q = some y → y.pos ≠ .waitFan →
        t.plant.damper? q = some y) ∧
      t.plant.mode = s.plant.mode ∧ t.plant.supply = s.plant.supply ∧ t.plant.test = s.plant.test ∧
      s.plant.EntriesKept t.plant ∧ s.PortsMarked t ∧ s.OutsidePlant t

/-- A limit event at a damper record, in the limits' new levels. Under TWO-LIMIT: one limit active alone proves the
end of the stroke towards it, whichever limit has changed (R59). The release of the proven end, whatever the other
limit, records DRIFT and begins a stroke back to it with a fresh tSTK (R62). Both limits active record CONFLICT, in
every position state, and take every state but WAITFAN to UNPROVEN with the stroke timer as it was (R63). An event
that leaves at most one limit active takes UNPROVEN to the held demand's end or into its stroke (R64). The fault field
keeps the first fault (R65). Under OPEN-LIMIT: the open limit proves OPEN in OPENING (R59); its going inactive proves
CLOSED by time in CLOSING if the stroke timer has run out (R60), which the model holds as its being idle there
(assumption 15); its release in OPEN and its closing in CLOSED are a DRIFT (R62); UNPROVEN is left as under TWO-LIMIT
with the closed limit inactive (R64). Any other event, and every event under TIMED or in WAITFAN short of a conflict,
leaves the record as it is. -/
def Obligations.LimitEventsOfTwoLimits : Prop :=
  ∀ (c : PointCfg) (d : Damper), 0 < c.tSTK →
    let first : DamperFault → DamperFault := fun x => if d.fault = .none then x else d.fault
    let proven : DamperEnd → Damper := fun e => { d with pos := e.proven, stroke := .idle, timed := false }
    let drifted : DamperEnd → Damper := fun e =>
      { d with fault := first .drift, pos := e.moving, timed := false, stroke := .running (8 * c.tSTK) 0 }
    let begun : DamperEnd → Damper := fun e =>
      { d with pos := e.moving, stroke := if d.stroke.isRunning then d.stroke else .running (8 * c.tSTK) 0 }
    (c.feedback = .twoLimit →
      (∀ i : LimitInput, d.fbaFilt.filtered = .low → d.fbbFilt.filtered = .low →
        (d.pos ≠ .waitFan →
          d.limitEvent c i = { d with fault := first .conflict, pos := .unproven, timed := false }) ∧
        (d.pos = .waitFan → d.limitEvent c i = { d with fault := first .conflict })) ∧
      ∀ i : LimitInput, d.fbaFilt.filtered = .high ∨ d.fbbFilt.filtered = .high →
        (d.pos = .opening → d.limitEvent c i = if d.fbaFilt.filtered = .low then proven .openEnd else d) ∧
        (d.pos = .closing → d.limitEvent c i = if d.fbbFilt.filtered = .low then proven .closedEnd else d) ∧
        (d.pos = .opened → d.held.map DamperHeld.target = some .openEnd →
          d.limitEvent c i = if i = .fba ∧ d.fbaFilt.filtered = .high then drifted .openEnd else d) ∧
        (d.pos = .closed → d.held.map DamperHeld.target = some .closedEnd →
          d.limitEvent c i = if i = .fbb ∧ d.fbbFilt.filtered = .high then drifted .closedEnd else d) ∧
        (d.pos = .waitFan → d.limitEvent c i = d) ∧
        ∀ e : DamperEnd, d.pos = .unproven → d.held.map DamperHeld.target = some e →
          let atEnd := match e with
            | .openEnd => d.fbaFilt.filtered
            | .closedEnd => d.fbbFilt.filtered
          d.limitEvent c i = if atEnd = .low then proven e else begun e) ∧
    (c.feedback = .openLimit →
      ∀ i : LimitInput,
        (d.pos = .opening → d.limitEvent c i = if d.fbaFilt.filtered = .low then proven .openEnd else d) ∧
        (d.pos = .closing →
          d.limitEvent c i =
            if d.fbaFilt.filtered = .high ∧ d.stroke = .idle then { d with pos := .closed, timed := true } else d) ∧
        (d.pos = .opened → d.held.map DamperHeld.target = some .openEnd →
          d.limitEvent c i = if d.fbaFilt.filtered = .high then drifted .openEnd else d) ∧
        (d.pos = .closed → d.held.map DamperHeld.target = some .closedEnd →
          d.limitEvent c i = if d.fbaFilt.filtered = .low then drifted .closedEnd else d) ∧
        (d.pos = .waitFan → d.limitEvent c i = d) ∧
        ∀ e : DamperEnd, d.pos = .unproven → d.held.map DamperHeld.target = some e →
          d.limitEvent c i = if e = .openEnd ∧ d.fbaFilt.filtered = .low then proven e else begun e) ∧
    (c.feedback = .timed → ∀ i : LimitInput, d.limitEvent c i = d)

/-- A damper's stroke timer runs out in a stroke (R60, R61). Under TIMED, and under OPEN-LIMIT in CLOSING with the open
limit inactive, it proves the position with TIMED set. In every other case of OPENING, CLOSING and UNPROVEN it records
STROKE if no fault stands, and the state, CMD and every other point stay as they were. -/
def Obligations.StrokeTimerRunsOut : Prop :=
  ∀ (s : State) (p : Point) (d : Damper), s.held = false → s.NoTest → s.CmdSound →
    s.plant.damper? p = some d → d.stroke.isRunning = true →
    (d.pos = .opening ∨ d.pos = .closing ∨ d.pos = .unproven) →
    let byTime :=
      ((s.store.point p).feedback = .timed ∧ d.pos ≠ .unproven) ∨
        ((s.store.point p).feedback = .openLimit ∧ d.pos = .closing ∧ d.fbaFilt.filtered = .high)
    (byTime →
      ∃ t, exec (.strokeTimerRunsOut p) s = .next t ∧
        t.plant.damper? p =
          some { d with
            pos := if d.pos = .opening then .opened else .closed
            stroke := .idle
            timed := true } ∧
        t.PointMarked p ∧ (∀ q, q ≠ p → t.plant.damper? q = s.plant.damper? q) ∧
        s.plant.EntriesKept t.plant ∧ s.PortsMarked t ∧ s.OutsidePlant t) ∧
    (¬byTime →
      ∃ t, exec (.strokeTimerRunsOut p) s = .next t ∧
        t.plant =
          s.plant.setChan p
            { s.plant.chan p with
              unit := .damper
                { d with stroke := .idle, fault := if d.fault = .none then .stroke else d.fault } } ∧
        (d.fault = .none → t.PointMarked p) ∧ s.PortsMarked t ∧ s.OutsidePlant t)

/-- A stroke towards an end begins (R56): CMD at the end's sense, TIMED clear, the stroke timer loaded with tSTK in
eighths, and the limits tested at once under each arrangement. The close wait (R58, R67): a CLOSE demand taken by a
damper whose held demand is not CLOSE, from a source other than OVERRIDE, while a path fan turns, puts it in WAITFAN
at the open sense, its stroke timer idle and TIMED clear; with no path fan turning, or from OVERRIDE, the stroke
towards closed begins. An OPEN demand taken by a damper whose held demand is not OPEN begins a stroke towards open
(R57). A demand of the action held replaces the source alone, but that a CLOSE from OVERRIDE ends the close wait
(R55). A damper handed a demand takes it with the path fans as they then stand, a stroke that begins or a CLOSE that
waits on fans with tRD above 0 being its record at the end of the hand-over. A demand handed to a fan whose tRD is
above 0 (R76 to R78, R87): recorded only in RUNDOWN and FAULT; RUN takes IDLE to QUEUED, STOP takes QUEUED to IDLE;
STOP takes an energised fan to RUNDOWN, as does a RUN from a source other than OVERRIDE while a path damper is not
OPEN; any other RUN leaves an energised fan in its state and is a VARIABLE fan's pending speed. No other fan and no
damper changes with it. In the stopped fan's record the period phase at 0 is the model's choice (assumption 30), and
so are the discarded count held as 0 and E and the band left standing (assumption 20). Fans with tRD 0 are left out.
-/
def Obligations.StrokeOrCloseWait : Prop :=
  (∀ (c : PointCfg) (d : Damper) (e : DamperEnd), 0 < c.tSTK → d.held.map DamperHeld.target = some e →
    let d' := d.strokeTowards c e
    let begun : Damper := { d with timed := false, stroke := .running (8 * c.tSTK) 0 }
    let target := match e with
      | .openEnd => d.fbaFilt.filtered
      | .closedEnd => d.fbbFilt.filtered
    let opposite := match e with
      | .openEnd => d.fbbFilt.filtered
      | .closedEnd => d.fbaFilt.filtered
    damperCmd c d' =
        (match e with
          | .openEnd => c.driveSense == .energiseOpen
          | .closedEnd => c.driveSense == .energiseClose) ∧
      (c.feedback = .twoLimit →
        (target = .low → opposite = .high → d' = { begun with pos := e.proven, stroke := .idle }) ∧
        (target = .low → opposite = .low →
          d' = { begun with pos := .unproven, fault := if d.fault = .none then .conflict else d.fault }) ∧
        (target = .high → d' = { begun with pos := e.moving })) ∧
      (c.feedback = .openLimit →
        (e = .openEnd → target = .low → d' = { begun with pos := .opened, stroke := .idle }) ∧
        (e = .openEnd → target = .high → d' = { begun with pos := .opening }) ∧
        (e = .closedEnd → d' = { begun with pos := .closing })) ∧
      (c.feedback = .timed → d' = { begun with pos := e.moving })) ∧
  (∀ (c : PointCfg) (d : Damper) (turning : Bool) (src : Source),
    d.held.map DamperHeld.target ≠ some .closedEnd →
    let d' := d.takeDemand c turning .closedEnd src
    let asked : Damper := { d with held := some { target := .closedEnd, source := src } }
    (turning = true → src ≠ .override →
      d' = { asked with pos := .waitFan, stroke := .idle, timed := false } ∧
        damperCmd c d' = (c.driveSense == .energiseOpen)) ∧
    ((turning = false ∨ src = .override) → d' = asked.strokeTowards c .closedEnd)) ∧
  (∀ (c : PointCfg) (d : Damper) (turning : Bool) (e : DamperEnd) (src : Source),
    let d' := d.takeDemand c turning e src
    let asked : Damper := { d with held := some { target := e, source := src } }
    (d.held.map DamperHeld.target ≠ some .openEnd → e = .openEnd → d' = asked.strokeTowards c .openEnd) ∧
    (d.held.map DamperHeld.target = some e →
      d' = if d.pos = .waitFan ∧ e = .closedEnd ∧ src = .override then asked.strokeTowards c .closedEnd else asked)) ∧
  (∀ (env : Env) (ev : Ev) (p : Point) (d : Damper) (e : DamperEnd) (src : Source), ev.plant.damper? p = some d →
    let c := env.store.point p
    let x := d.takeDemand c (anyPathFanTurning env.store ev.plant p) e src
    let t := (handDamper env p e src ev).plant
    (x.pos ≠ .waitFan ∨ ∀ q ∈ env.store.pathFans p, 0 < (env.store.point q).tRD) →
      t.damper? p = some x ∧ (t.chan p).cmd = damperCmd c x ∧
        (d.pos ≠ .opened ∨ x.pos = .opened → ∀ q, t.fan? q = ev.plant.fan? q)) ∧
  ∀ (env : Env) (ev : Ev) (p : Point) (f : Fan) (w : FanWant) (src : Source), ev.plant.fan? p = some f →
    f.TableSound (env.store.point p) → 0 < (env.store.point p).tRD →
    let c := env.store.point p
    let t := (handFan env p w src ev).plant
    let asked : Fan := { f with held := some { want := w, source := src } }
    let stopped : Fan :=
      { asked with
        state := .runDown
        runDown := .running (8 * c.tRD) 0
        proofLimit := .idle
        proof := { f.proof with gate := .idle, count := 0, inRun := 0, outRun := 0 }
        speed := { applied := 0, pending := none, phase := 0 }
        driveAlarm := driveFaultIndicated c f.fbbFilt.filtered }
    let blocked : Prop := src ≠ .override ∧ pathOpen env.store ev.plant p = false
    (f.state = .idle →
      (∀ v, w = .run v →
        t.fan? p = some { asked with state := .queued } ∧ p ∈ t.sched.queue ∧ (handFan env p w src ev).evalDue = true) ∧
      (w = .stop → t.fan? p = some asked ∧ t.sched = ev.plant.sched)) ∧
    (f.state = .queued →
      (∀ v, w = .run v →
        t.fan? p = some asked ∧ t.sched = ev.plant.sched ∧ (handFan env p w src ev).evalDue = true) ∧
      (w = .stop →
        t.fan? p = some { asked with state := .idle, wait := none } ∧ p ∉ t.sched.queue ∧
          (handFan env p w src ev).evalDue = true)) ∧
    (f.state.energised = true →
      (w = .stop → t.fan? p = some stopped ∧ (t.chan p).cmd = false) ∧
      ∀ v, w = .run v →
        (blocked → t.fan? p = some stopped ∧ (t.chan p).cmd = false) ∧
        (¬blocked →
          t.fan? p =
              some { asked with
                speed :=
                  if c.speedControl = .fixed then f.speed
                  else { f.speed with pending := if v = f.speed.applied then none else some v } } ∧
            (t.chan p).cmd = true ∧ t.sched = ev.plant.sched)) ∧
    (f.state = .runDown ∨ f.state = .fault → t.fan? p = some asked ∧ t.sched = ev.plant.sched) ∧
    (∀ q, q ≠ p → t.fan? q = ev.plant.fan? q) ∧ ∀ q, t.damper? q = ev.plant.damper? q

/-- Every step keeps the dampers sound: each record is as Table 3-2 gives it, and a damper in WAITFAN holds a CLOSE
demand from a source other than OVERRIDE and has a path fan that turns (R67, R68). -/
def Obligations.DampersStaySound : Prop :=
  ∀ s t : State, s.KindsSound ∧ s.DampersSound → step s = .next t → t.KindsSound ∧ t.DampersSound

/-- EQRS (R66, R91, R162). Of a damper with a fault, it clears the fault field and leaves the position state, the held
demand, CMD and TIMED; the stroke timer is loaded with tSTK if it is idle short of a proven position. Of a fan in
FAULT that holds STOP, it puts the fan in IDLE; of one that holds RUN, in QUEUED, from where the scheduler may start it
at once. A point without a fault is refused with STATE. -/
def Obligations.EqrsClearsFault : Prop :=
  ∀ (s : State) (i : PortId) (p : Point) (b2 b3 : Byte), i ≠ .a → s.PortAtRest i →
    let o := exec (.eqrs i (byte p.val) b2 b3) s
    let refused := o = .next (s.withReply i .state (byte p.val) b2 b3)
    ((s.plant.chan p).unit = .unused → refused) ∧
    (∀ d : Damper, s.plant.damper? p = some d →
      (d.fault = .none → refused) ∧
      (d.fault ≠ .none → s.CmdSound → 0 < (s.store.point p).tSTK →
        ∃ t, o = .next t ∧ s.Answered t i .done (byte p.val) b2 b3 ∧ s.OutsidePlant t ∧ t.PointMarked p ∧
          t.plant =
            s.plant.setChan p
              { s.plant.chan p with
                unit := .damper
                  { d with
                    fault := .none
                    stroke :=
                      if (d.pos = .opening ∨ d.pos = .closing ∨ d.pos = .unproven) ∧ d.stroke.isRunning = false then
                        .running (8 * (s.store.point p).tSTK) 0
                      else d.stroke } })) ∧
    (∀ f : Fan, s.plant.fan? p = some f →
      (f.state ≠ .fault → refused) ∧
      (f.state = .fault → s.plant.mode ≠ .restore → s.NoTest → s.QueueSound →
        ∃ t f', o = .next t ∧ s.Answered t i .done (byte p.val) b2 b3 ∧ s.OutsidePlant t ∧ t.PointMarked p ∧
          s.plant.EntriesKept t.plant ∧ t.plant.fan? p = some f' ∧ f'.fault = .none ∧ f'.held = f.held ∧
          (f.wantsRun = false → f'.state = .idle) ∧
          (f.wantsRun = true → f'.state = .queued ∨ f'.state = .starting)))

/-! ## Fans and the run proof -/

/-- The expected count and band of a window (R95): the formula, and its bounds for every record and speed in range. -/
def Obligations.ExpectedCountAndBand : Prop :=
  ∀ (c : PointCfg) (speed : Nat), c.InRange → speed ≤ 100 →
    let e := expectedCount c speed
    e = (speed * (c.nRATE * 20) * c.nPPR * c.nGATE + 24000) / 48000 ∧ e ≤ 3840 ∧
      (8 ≤ e → bandLow c e = e * (100 - c.nTOL) / 100 ∧
        bandHigh c e = min ((e * (100 + c.nTOL) + 99) / 100) 4095) ∧
      (e < 8 → bandLow c e = 1 ∧ bandHigh c e = 4095) ∧
      (1 ≤ e → bandLow c e ≤ e) ∧ (e = 0 → e < bandLow c e) ∧ e ≤ bandHigh c e ∧ bandHigh c e ≤ 4095 ∧
      bandLow c e ≤ bandHigh c e

/-- A rising edge of FBA (R94): on an energised fan the window count grows by one up to 4095, and nothing else changes
but the line; on a fan that is not energised only the line does. The command is the edge itself, whatever level the line
was last known to hold (the model's choice, assumption 12). -/
def Obligations.RisingEdgeCounts : Prop :=
  ∀ (s : State) (p : Point) (f : Fan), s.held = false → (s.plant.chan p).unit = .fan f →
    exec (.fbaRisingEdge p) s =
      .next
        { s with
          plant := s.plant.setChan p
            { s.plant.chan p with
              fba := .high
              unit := .fan
                (if f.state.energised then
                  { f with proof := { f.proof with count := if f.proof.count < 4095 then f.proof.count + 1 else 4095 } }
                else f) } }

/-- An energised fan's gate timer runs out (R80, R82, R96): the verdict moves the run counters, the window count and E
become the last ones, the next window begins at the applied speed with its E and band, and the fan moves between
STARTING, RUNNING and LOST by the counters. CMD stays energised, and every damper and every other fan that is not
QUEUED is as it was. -/
def Obligations.GateWindowEnds : Prop :=
  ∀ (s : State) (p : Point) (f : Fan), s.held = false → s.NoTest → s.QueueSound → s.plant.fan? p = some f →
    f.state.energised = true → f.proof.gate.isRunning = true → f.proof.count ≤ 4095 →
    let c := s.store.point p
    let inBand : Bool := decide (f.proof.low ≤ f.proof.count ∧ f.proof.count ≤ f.proof.high)
    let inRun := if inBand then min (f.proof.inRun + 1) c.nK else 0
    let outRun := if inBand then 0 else min (f.proof.outRun + 1) c.nK
    let e := expectedCount c f.speed.applied
    ∃ t f', exec (.gateTimerRunsOut p) s = .next t ∧ t.plant.fan? p = some f' ∧
      f'.proof =
        { gate := .load c.nGATE, count := 0, expected := e, low := bandLow c e, high := bandHigh c e
          inRun := inRun, outRun := outRun, lastCount := f.proof.count, lastE := f.proof.expected } ∧
      f'.state =
        (match f.state with
          | .starting => if c.nK ≤ inRun then .running else .starting
          | .running => if c.nK ≤ outRun then .lost else .running
          | .lost => if c.nK ≤ inRun then .running else .lost
          | x => x) ∧
      (f.state = .starting → f'.state = .running → f'.proofLimit = .idle ∧ t.PointMarked p) ∧
      (f'.state = f.state → f'.proofLimit = f.proofLimit) ∧
      f'.held = f.held ∧ f'.speed = f.speed ∧ (t.plant.chan p).cmd = true ∧
      (∀ q, t.plant.damper? q = s.plant.damper? q) ∧
      (∀ q g, q ≠ p → s.plant.fan? q = some g → g.state ≠ .queued → t.plant.fan? q = some g) ∧
      s.plant.EntriesKept t.plant ∧ s.PortsMarked t ∧ s.OutsidePlant t

/-- The proof-limit timer of a STARTING fan runs out (R81): FAULT with fault kind FAILSTART, CMD de-energised, SPD
low, the window stopped, the run counters and the pending speed cleared, the held demand as it was, the point marked.
A fan's run-down timer runs out (R85): with a held STOP or none the fan enters IDLE; with a held RUN it enters QUEUED,
from where the scheduler may start it at once; its held demand stays, and the point is marked. The faulted fan's
period phase at 0 is the model's choice (assumption 30). A running proof test and RESTORE, in which the event brings
more, are left out. -/
def Obligations.FanTimersRunOut : Prop :=
  ∀ (s : State) (p : Point) (f : Fan), s.held = false → s.NoTest → s.plant.mode ≠ .restore → s.QueueSound →
    s.plant.fan? p = some f →
    (f.state = .starting → f.proofLimit.isRunning = true →
      ∃ t f', exec (.proofLimitTimerRunsOut p) s = .next t ∧ t.plant.fan? p = some f' ∧
        f'.state = .fault ∧ f'.fault = .failStart ∧ f'.held = f.held ∧ f'.proofLimit = .idle ∧
        f'.speed = { applied := 0, pending := none, phase := 0 } ∧ f'.proof.gate = .idle ∧ f'.proof.inRun = 0 ∧
        f'.proof.outRun = 0 ∧ f'.proof.lastCount = f.proof.lastCount ∧ f'.proof.lastE = f.proof.lastE ∧
        (t.plant.chan p).cmd = false ∧ t.spd p = false ∧ t.PointMarked p ∧
        s.plant.EntriesKept t.plant ∧ s.PortsMarked t ∧ s.OutsidePlant t) ∧
    (f.state = .runDown → f.runDown.isRunning = true →
      ∃ t f', exec (.runDownTimerRunsOut p) s = .next t ∧ t.plant.fan? p = some f' ∧
        (f.wantsRun = false → f'.state = .idle) ∧ (f.wantsRun = true → f'.state = .queued ∨ f'.state = .starting) ∧
        f'.runDown = .idle ∧ f'.held = f.held ∧ t.PointMarked p ∧
        s.plant.EntriesKept t.plant ∧ s.PortsMarked t ∧ s.OutsidePlant t)

/-- A period boundary of an energised fan (R98, R99): the next period begins at phase 0; a pending speed becomes the
applied speed, and the run proof restarts with both counters cleared, a new window, E and band at the new speed, and
the last count and last E as they were. Nothing else changes. -/
def Obligations.PeriodBoundaryApplies : Prop :=
  ∀ (s : State) (p : Point) (f : Fan), s.held = false → s.CmdSound → s.plant.fan? p = some f →
    f.state.energised = true → f.wait = none → f.fault = .none → f.driveAlarm = false →
    let c := s.store.point p
    exec (.periodBoundary p) s =
      .next
        { s with
          plant := s.plant.setChan p
            { s.plant.chan p with
              unit := .fan
                (match f.speed.pending with
                  | none => { f with speed := { f.speed with phase := 0 } }
                  | some v =>
                    { f with
                      speed := { applied := v, pending := none, phase := 0 }
                      proof :=
                        { f.proof with
                          gate := .load c.nGATE
                          count := 0
                          expected := expectedCount c v
                          low := bandLow c (expectedCount c v)
                          high := bandHigh c (expectedCount c v)
                          inRun := 0
                          outRun := 0 } }) } }

/-- SPD within one period (R98, Table 4-6): of a VARIABLE fan that is energised it is high in exactly the phases below
twice the applied speed, of a FIXED one in all, and it is low while CMD is de-energised. -/
def Obligations.SpeedReferenceDuty : Prop :=
  ∀ (c : PointCfg) (ch : Channel) (f : Fan), ch.unit = .fan f →
    (ch.cmd = false → ch.spdHigh c = false) ∧
    (ch.cmd = true → c.speedControl = .fixed → ch.spdHigh c = true) ∧
    (ch.cmd = true → c.speedControl = .variable → f.speed.applied ≤ 100 →
      ((List.range 200).filter fun k =>
        ({ ch with unit := .fan { f with speed := { f.speed with phase := k } } } : Channel).spdHigh c) =
        List.range (2 * f.speed.applied))

/-- A drive fault becomes indicated as the contact's filter timer runs out (R89, R90): an energised fan enters FAULT
with fault kind DRIVE, CMD de-energised, the window stopped and the pending speed absent, and its drive-alarm flag is
set; a fan that is not energised keeps its state and has the flag set. The faulted fan's period phase at 0 is the
model's choice (assumption 30). The clearing of the indication is left out. -/
def Obligations.DriveFaultIndicated : Prop :=
  ∀ (s : State) (p : Point) (f : Fan), s.held = false → s.NoTest → s.plant.mode ≠ .restore → s.QueueSound →
    s.plant.fan? p = some f → f.fbbFilt.timer.isRunning = true →
    (((s.store.point p).driveContact = .opensOnFault ∧ f.fbbFilt.filtered = .low ∧ (s.plant.chan p).fbb = .high) ∨
      ((s.store.point p).driveContact = .closesOnFault ∧ f.fbbFilt.filtered = .high ∧
        (s.plant.chan p).fbb = .low)) →
    ∃ t f', exec (.fbbFilterTimerRunsOut p) s = .next t ∧ t.plant.fan? p = some f' ∧
      f'.fbbFilt = { filtered := (s.plant.chan p).fbb, timer := .idle } ∧ f'.driveAlarm = true ∧
      f'.held = f.held ∧
      (f.state.energised = true →
        f'.state = .fault ∧ f'.fault = .drive ∧ (t.plant.chan p).cmd = false ∧ f'.proof.gate = .idle ∧
          f'.proof.inRun = 0 ∧ f'.proof.outRun = 0 ∧ f'.proofLimit = .idle ∧
          f'.speed = { applied := 0, pending := none, phase := 0 } ∧ t.PointMarked p) ∧
      (f.state.energised = false → f'.state = f.state ∧ f'.proof = f.proof ∧ f'.runDown = f.runDown) ∧
      s.plant.EntriesKept t.plant ∧ s.PortsMarked t ∧ s.OutsidePlant t

/-- THE INTERLOCK. Every step keeps the law of R75: a fan's CMD is energised exactly in STARTING, RUNNING and LOST, and
in those states the supply is GOOD and every one of its path dampers is OPEN, unless its demand source is OVERRIDE. With
it go the CMD of every other point as its record asks (R22, R51), all CMD de-energised while device reset is held
(R151), and every point's having the record of its stored kind. -/
def Obligations.InterlockHolds : Prop :=
  ∀ s t : State, s.KindsSound ∧ s.CmdSound ∧ s.InterlockSound → step s = .next t →
    t.KindsSound ∧ t.CmdSound ∧ t.InterlockSound

/-- Every step keeps the fan records as Table 4-2 gives them and the start queue of exactly the QUEUED fans in stage
and point order (R103), in a machine whose store holds values of their ranges and whose points have the records of
their kinds. That the speed record of a fan that is not energised has its period phase at 0 is no entry of Table 4-2 but
the model's choice (assumption 30). And every step keeps each zone filter as Table 1-3 gives it: PENDING exactly while
its levels differ. -/
def Obligations.FansAndZoneFiltersStaySound : Prop :=
  (∀ s t : State, s.StoreInRange ∧ s.KindsSound ∧ s.FansSound ∧ s.QueueSound → step s = .next t →
    t.StoreInRange ∧ t.KindsSound ∧ t.FansSound ∧ t.QueueSound) ∧
  ∀ s t : State, s.ZoneFiltersSound → step s = .next t → t.ZoneFiltersSound

/-! ## Start scheduling and the supply -/

/-- Every step keeps the scheduler and the supply monitor sound: the queue holds exactly the QUEUED fans in stage and
point order (R103); the allowance in use is the sum of the units of the STARTING fans and exceeds the limit in force
only while exactly one fan is STARTING (R109, R110); the settle timer runs exactly in SETTLING (Table 5-3), and SUPFAIL's
filter is PENDING exactly while its levels differ, the filtered one being low exactly in FAILED (R114, R115). The
store's fields stay in their ranges (R166). -/
def Obligations.SchedulerAndSupplyStaySound : Prop :=
  ∀ s t : State, s.StoreInRange ∧ s.QueueSound ∧ s.AllowanceSound ∧ s.SupplySound → step s = .next t →
    t.StoreInRange ∧ t.QueueSound ∧ t.AllowanceSound ∧ t.SupplySound

/-- One evaluation (R105 to R108, R110): of a queue that holds exactly the QUEUED fans. A fan whose source is not
OVERRIDE with a path damper not OPEN is passed over with PATH, and else one whose drive-alarm flag is set with DRIVE. Of
the fans that are not passed over, a first part of the queue starts and the rest waits. Each start finds the supply
GOOD, the spacing timer not running (for a later start of the same evaluation: nSPC is 0) and its units within the limit
on top of those in use and those started before it; an oversize fan starts as the first, with no fan in STARTING. The
first of the rest waits SUPPLY, SPACING or ALLOWANCE, by the first of the three checks that it fails; every one behind
it waits ORDER. The starts leave the queue, take their units and load the spacing timer with nSPC. No other point
changes. -/
def Obligations.EvaluationGivesReasons : Prop :=
  ∀ (env : Env) (ev : Ev), ev.plant.sched.queue.Nodup →
    (∀ p : Point, p ∈ ev.plant.sched.queue ↔ ev.plant.isQueued p = true) →
    let pl := ev.plant
    let r := (evaluate env ev).plant
    let units : Point → Nat := fun p => (env.store.point p).nUNIT
    let waits : Point → WaitReason → Prop := fun p w =>
      ∃ f', r.fan? p = some f' ∧ f'.state = .queued ∧ f'.wait = some w
    let passed : Point → Bool := fun p =>
      match pl.fan? p with
      | some f => (!f.underOverride && !pathOpen env.store pl p) || f.driveAlarm
      | none => true
    (∀ (p : Point) (f : Fan), pl.fan? p = some f → f.state = .queued →
      (f.underOverride = false → pathOpen env.store pl p = false → waits p .path) ∧
      ((f.underOverride = true ∨ pathOpen env.store pl p = true) → f.driveAlarm = true → waits p .drive)) ∧
    (∀ p : Point, p ∉ pl.sched.queue → r.chan p = pl.chan p) ∧
    ∃ starts rest : List Point, pl.sched.queue.filter (fun p => !passed p) = starts ++ rest ∧
      (∀ p ∈ starts, ∃ f', r.fan? p = some f' ∧ f'.state = .starting ∧ f'.wait = none ∧ (r.chan p).cmd = true) ∧
      (∀ (a b : List Point) (p : Point), starts = a ++ p :: b →
        pl.supply.state = .good ∧ (a = [] → pl.sched.spacing.isRunning = false) ∧
          (a ≠ [] → env.store.device.nSPC = 0) ∧
          (pl.sched.inUse + (a.map units).sum + units p ≤ pl.sched.limit ∨
            (pl.sched.limit < units p ∧ a = [] ∧ pl.nStarting = 0))) ∧
      (∀ (p : Point) (b : List Point), rest = p :: b →
        (∀ q ∈ b, waits q .order) ∧
          (pl.supply.state ≠ .good → waits p .supply) ∧
          (pl.supply.state = .good →
            let spaced := if starts = [] then pl.sched.spacing.isRunning = true else env.store.device.nSPC ≠ 0
            (spaced → waits p .spacing) ∧
              (¬spaced →
                waits p .allowance ∧ pl.sched.limit < pl.sched.inUse + (starts.map units).sum + units p ∧
                  (units p ≤ pl.sched.limit ∨ starts ≠ [] ∨ 0 < pl.nStarting)))) ∧
      r.sched =
        { pl.sched with
          queue := pl.sched.queue.filter fun p => !starts.contains p
          inUse := pl.sched.inUse + (starts.map units).sum
          spacing := if starts = [] then pl.sched.spacing else .load env.store.device.nSPC }

/-- The spacing timer runs out (R112) with one fan in the queue that is not passed over, the supply GOOD and its units
within the limit (R106, R108, R79): the fan starts. It is in STARTING with CMD energised, the applied speed and the
proof-limit timer set and the first window begun; the queue is empty, the units are taken, the spacing timer loaded.
With an empty queue only the spacing timer changes. -/
def Obligations.SpacingTimerStartsFan : Prop :=
  ∀ s : State, s.held = false → s.plant.sched.spacing.isRunning = true →
    (s.plant.sched.queue = [] →
      exec .spacingTimerRunsOut s =
        .next { s with plant := { s.plant with sched := { s.plant.sched with spacing := .idle } } }) ∧
    ∀ (p : Point) (f : Fan), s.plant.sched.queue = [p] → s.plant.fan? p = some f → f.state = .queued →
      f.driveAlarm = false → (f.underOverride = true ∨ pathOpen s.store s.plant p = true) →
      s.plant.supply.state = .good →
      s.plant.sched.inUse + (s.store.point p).nUNIT ≤ s.plant.sched.limit →
      let c := s.store.point p
      let speed := if c.speedControl = .fixed then 100 else f.heldSpeed
      ∃ t f', exec .spacingTimerRunsOut s = .next t ∧ t.plant.fan? p = some f' ∧ f'.state = .starting ∧
        f'.wait = none ∧ f'.held = f.held ∧ (t.plant.chan p).cmd = true ∧
        f'.speed = { applied := speed, pending := none, phase := 0 } ∧ f'.proofLimit = .load (8 * c.tPL) ∧
        f'.proof.gate = .load c.nGATE ∧ f'.proof.count = 0 ∧ f'.proof.expected = expectedCount c speed ∧
        f'.proof.inRun = 0 ∧ f'.proof.outRun = 0 ∧
        t.plant.sched.queue = [] ∧ t.plant.sched.inUse = s.plant.sched.inUse + c.nUNIT ∧
        t.plant.sched.limit = s.plant.sched.limit ∧ t.plant.sched.spacing = .load s.store.device.nSPC ∧
        t.PointMarked p ∧ (∀ q, q ≠ p → t.plant.chan q = s.plant.chan q) ∧ t.plant.mode = s.plant.mode ∧
        s.PortsMarked t ∧ s.OutsidePlant t

/-- SUPFAIL becomes active in GOOD as its filter timer runs out (R88, R115, R116): the supply is FAILED, no fan is
energised, the allowance in use is 0, and each fan that was energised with tRD above 0 stands in RUNDOWN with its full
tRD and its held demand. In SETTLING the supply becomes FAILED with the settle timer cancelled (R117). -/
def Obligations.SupplyLossTrips : Prop :=
  ∀ s : State, s.held = false → s.plant.supply.filter.timer.isRunning = true →
    s.plant.supply.filter.filtered = .high → s.plant.supply.raw = .low →
    (s.plant.supply.state = .good ∨ s.plant.supply.state = .settling) →
    ∃ t, exec .supfailFilterTimerRunsOut s = .next t ∧
      t.plant.supply.state = .failed ∧ t.plant.supply.filter = { filtered := .low, timer := .idle } ∧
      t.plant.supply.raw = .low ∧
      (s.plant.supply.state = .settling → t.plant.supply.settle = .idle) ∧
      (s.plant.supply.state = .good →
        t.plant.sched.inUse = 0 ∧ t.plant.sched.spacing = s.plant.sched.spacing ∧
          ∀ (p : Point) (f : Fan), s.plant.fan? p = some f → f.state.energised = true → 0 < (s.store.point p).tRD →
            s.NoTest → s.plant.mode ≠ .restore →
            ∃ f', t.plant.fan? p = some f' ∧ f'.state = .runDown ∧
              f'.runDown = .running (8 * (s.store.point p).tRD) 0 ∧ f'.held = f.held ∧ t.PointMarked p) ∧
      (s.plant.supply.state = .good → ∀ (p : Point) (f' : Fan), t.plant.fan? p = some f' → f'.state.energised = false) ∧
      s.plant.EntriesKept t.plant ∧ s.PortsMarked t ∧ s.OutsidePlant t

/-- SUPFAIL becomes inactive in FAILED as its filter timer runs out (R117): SETTLING, the settle timer loaded with tSET
in eighths. The settle timer then running out in SETTLING makes the supply GOOD (R118). -/
def Obligations.SupplyReturns : Prop :=
  ∀ s : State, s.held = false →
    (s.plant.supply.filter.timer.isRunning = true → s.plant.supply.filter.filtered = .low →
      s.plant.supply.raw = .high → s.plant.supply.state = .failed → 0 < s.store.device.tSET →
      ∃ t, exec .supfailFilterTimerRunsOut s = .next t ∧
        t.plant.supply =
          { raw := .high, filter := { filtered := .high, timer := .idle }, state := .settling
            settle := .running (8 * s.store.device.tSET) 0 } ∧
        t.plant.sched.inUse = s.plant.sched.inUse ∧ (∀ p, (t.plant.chan p).cmd = (s.plant.chan p).cmd) ∧
        s.plant.EntriesKept t.plant ∧ s.PortsMarked t ∧ s.OutsidePlant t) ∧
    (s.plant.supply.state = .settling → s.plant.supply.settle.isRunning = true →
      ∃ t, exec .settleTimerRunsOut s = .next t ∧
        t.plant.supply = { s.plant.supply with state := .good, settle := .idle } ∧
        (s.plant.sched.queue = [] → t.plant = { s.plant with supply := t.plant.supply }) ∧
        (∀ q, t.plant.damper? q = s.plant.damper? q) ∧
        s.plant.EntriesKept t.plant ∧ s.PortsMarked t ∧ s.OutsidePlant t)

/-! ## The proof test -/

/-- PTST (R122, R123, R125, R163). The ranges are checked first (RANGE), then the mode (MODE). An accepted test of a
range whose first point is a TIMED DAMPER that stands CLOSED and idle under its normal demand CLOSE, with its entry
AUTO and no fault, is RUNNING in TEST with that point in DAMPER-OUT and the test demand OPEN; one whose points are all
UNUSED is DONE in NORMAL with no entry. What the steps of other points begin with is ProofTestProgress. -/
def Obligations.PtstBegins : Prop :=
  ∀ (s : State) (b1 b2 b3 : Byte), s.PortAtRest .b →
    let o := exec (.ptst .b b1 b2 b3) s
    let n1 := b1.toNat
    let n2 := b2.toNat
    (63 < n1 ∨ n2 = 0 ∨ 64 < n2 ∨ 64 < n1 + n2 → o = .next (s.withReply .b .range b1 b2 b3)) ∧
    (n1 ≤ 63 → 0 < n2 → n1 + n2 ≤ 64 →
      (s.plant.mode ≠ .normal → o = .next (s.withReply .b .mode b1 b2 b3)) ∧
      (s.plant.mode = .normal → s.NoTest →
        (∀ (p : Point) (d : Damper), p.val = n1 → s.store.kind p = .damper → s.plant.damper? p = some d →
          d.fault = .none → d.pos = .closed → d.stroke = .idle → (s.plant.chan p).override = .auto →
          d.held.map DamperHeld.target = some .closedEnd → (s.store.point p).feedback = .timed →
          0 < (s.store.point p).tSTK → (s.plant.chan p).normal = .toClose →
          (s.plant.chan p).resolved = some { action := .toClose, source := .normal, fireZone := none } →
          ∃ t, o = .next t ∧ s.Answered t .b .done b1 b2 b3 ∧ s.OutsidePlant t ∧ t.plant.mode = .test ∧
            t.plant.test =
              { state := .running, first := n1, count := n2, current := some p, step := some .damperOut
                home := some .toClose, results := [], failed := 0 } ∧
            (t.plant.chan p).testDemand = some .toOpen ∧
            (t.plant.chan p).resolved = some { action := .toOpen, source := .test, fireZone := none } ∧
            s.plant.EntriesKept t.plant) ∧
        ((∀ p : Point, n1 ≤ p.val → p.val < n1 + n2 → (s.plant.chan p).unit = .unused) →
          ∃ t, o = .next t ∧ s.Answered t .b .done b1 b2 b3 ∧ s.OutsidePlant t ∧ t.plant.mode = .normal ∧
            t.plant.test.state = .done ∧ t.plant.test.first = n1 ∧ t.plant.test.count = n2 ∧
            t.plant.test.current.map Fin.val = some (n1 + n2 - 1) ∧ t.plant.test.step = none ∧
            t.plant.test.results = [] ∧ t.plant.test.failed = 0 ∧ s.plant.EntriesKept t.plant)))

/-- Every step keeps the test record sound: results in strictly ascending point order within the range, the failed
count the number of FAIL outcomes, and a step in hand exactly while the test is RUNNING (R121), which is exactly in
TEST (R46). -/
def Obligations.TestRecordStaysSound : Prop :=
  ∀ s t : State, s.ModeSound ∧ s.TestSound → step s = .next t → t.ModeSound ∧ t.TestSound

/-- PTHL (R133, R163): a RUNNING test ends ABORTED, with the entry ABORTED for its current point, which is not counted
as failed, the step and home action absent, the test demand absent and the mode NORMAL; otherwise it is refused with
STATE. PTRD (R136, R163): entry i of the result list, or FFh FFh at or beyond its length; byte 3 is the list length; it
changes nothing but the port, and an index above 63 is refused with RANGE. -/
def Obligations.HaltAndResultList : Prop :=
  ∀ (s : State) (b1 b2 b3 : Byte), s.PortAtRest .b →
    (s.plant.test.state ≠ .running → exec (.pthl .b b1 b2 b3) s = .next (s.withReply .b .state b1 b2 b3)) ∧
    (∀ p : Point, s.plant.test.state = .running → s.plant.test.current = some p →
      ∃ t, exec (.pthl .b b1 b2 b3) s = .next t ∧ s.Answered t .b .done b1 b2 b3 ∧ s.OutsidePlant t ∧
        t.plant.test =
          { s.plant.test with
            state := .aborted
            step := none
            home := none
            results := s.plant.test.results ++ [{ point := p, outcome := .aborted }] } ∧
        (t.plant.chan p).testDemand = none ∧ t.plant.mode = .normal ∧ s.plant.EntriesKept t.plant) ∧
    let o := exec (.ptrd .b b1 b2 b3) s
    let outcome : TestOutcome → Nat := fun x => match x with
      | .pass => 0
      | .skipOverride => 1
      | .skipFault => 2
      | .failStroke => 3
      | .failConflict => 4
      | .failDrift => 5
      | .failPath => 6
      | .failDrive => 7
      | .failStart => 8
      | .aborted => 9
    let l := s.plant.test.results
    (63 < b1.toNat → o = .next (s.withReply .b .range b1 b2 b3)) ∧
    (b1.toNat ≤ 63 →
      (∀ e, l[b1.toNat]? = some e →
        o = .next (s.withReply .b .done (byte e.point.val) (byte (outcome e.outcome)) (byte l.length))) ∧
      (l.length ≤ b1.toNat → o = .next (s.withReply .b .done 0xFF#8 0xFF#8 (byte l.length))))

/-- The scheduler's joining report (R124, R129): for the fan under test in FAN-START, PATH ends the step with FAIL-PATH
and DRIVE with FAIL-DRIVE; any other reason, a start, and a report about another point leave the record as it is, and
then nothing changes but that the report is gone. -/
def Obligations.JoiningReportJudges : Prop :=
  ∀ (s : State) (r : JoinReport) (rs : List JoinReport), s.held = false → s.plant.joinReports = r :: rs →
    let mine := s.plant.test.state = .running ∧ s.plant.test.current = some r.point ∧
      s.plant.test.step = some .fanStart
    (mine → (r.reason = some .path ∨ r.reason = some .drive) →
      ∃ t more, exec .joiningReport s = .next t ∧
        t.plant.test.results =
          s.plant.test.results ++
            { point := r.point, outcome := if r.reason = some .path then .failPath else .failDrive } :: more ∧
        (t.plant.chan r.point).testDemand = none ∧ s.plant.test.failed + 1 ≤ t.plant.test.failed ∧
        s.plant.EntriesKept t.plant ∧ s.PortsMarked t ∧ s.OutsidePlant t) ∧
    (¬mine ∨ (r.reason ≠ some .path ∧ r.reason ≠ some .drive) →
      exec .joiningReport s = .next { s with plant := { s.plant with joinReports := rs } })

/-! ## Panel ports -/

/-- The end of a write strobe (R139, R141). With SEL inactive it is ignored. A byte that finds the slot at the write
pointer FULL is discarded and OVERRUN set. Else it is stored and the pointer advances, from 3 back to 0; if that does
not complete an order, or completes one at a port that is not free, nothing else changes. An order completed at a free
port is taken: the input slots are freed, the order decoded, and its reply, if it completes at once, stored. -/
def Obligations.WriteStrobeStores : Prop :=
  ∀ (s : State) (i : PortId) (x : Byte), s.held = false →
    let r := s.port i
    let stored : PortRec := { r with inSlots := r.inSlots.set r.wptr (some x), wptr := r.wptr + 1 }
    exec (.wrStrobeEnd i false x) s = .next s ∧
    (r.inSlots[r.wptr].isSome = true → exec (.wrStrobeEnd i true x) s = .next (s.setPort i { r with overrun := true })) ∧
    (r.inSlots[r.wptr] = none →
      (stored.completeOrder = none ∨ r.inProgress.isSome = true ∨ r.replyWaiting = true →
        exec (.wrStrobeEnd i true x) s = .next (s.setPort i stored)) ∧
      ∀ o : Order, stored.completeOrder = some o → r.inProgress = none → r.replyWaiting = false →
        let taken : PortRec := { stored with inSlots := Vector.replicate 4 none, wptr := 0, inProgress := some o }
        let answer := decodeOrder i o (s.setPort i taken)
        exec (.wrStrobeEnd i true x) s =
          .next
            (match answer.2 with
              | none => answer.1
              | some y =>
                answer.1.setPort i
                  { (answer.1.port i).withReply y.code y.r1 y.r2 y.r3 with inProgress := none }))

/-- SEL going inactive (R140): one, two or three FULL slots are emptied, the write pointer set to 0 and SHORT set; with
none or all four FULL nothing changes. -/
def Obligations.SelReleaseDiscards : Prop :=
  ∀ (s : State) (i : PortId), s.held = false →
    let r := s.port i
    ((∃ k : Fin 4, r.inSlots[k].isSome = true) → (∃ k : Fin 4, r.inSlots[k] = none) →
      exec (.selInactive i) s =
        .next (s.setPort i { r with inSlots := Vector.replicate 4 none, wptr := 0, short := true })) ∧
    ((∀ k : Fin 4, r.inSlots[k] = none) ∨ (∀ k : Fin 4, r.inSlots[k].isSome = true) →
      exec (.selInactive i) s = .next s)

/-- A read strobe (R143). With SEL inactive at its start it is ignored. At an EMPTY slot UNDERRUN is set and nothing
else changes, so that the last byte driven is driven again. At a FULL slot the byte becomes the last byte driven, the
slot is EMPTY and the pointer advances, from 3 back to 0; if that empties the reply, a complete order that waits, with
none in progress, is taken, and otherwise nothing else changes. -/
def Obligations.ReadStrobeDrives : Prop :=
  ∀ (s : State) (i : PortId), s.held = false →
    let r := s.port i
    exec (.rdStrobe i false) s = .next s ∧
    (r.outSlots[r.rptr] = none → exec (.rdStrobe i true) s = .next (s.setPort i { r with underrun := true })) ∧
    ∀ x : Byte, r.outSlots[r.rptr] = some x →
      let read : PortRec :=
        { r with outSlots := r.outSlots.set r.rptr none, rptr := r.rptr + 1, lastDriven := x }
      (read.completeOrder = none ∨ r.inProgress.isSome = true ∨ read.replyWaiting = true →
        exec (.rdStrobe i true) s = .next (s.setPort i read)) ∧
      ∀ o : Order, read.completeOrder = some o → r.inProgress = none → read.replyWaiting = false →
        exec (.rdStrobe i true) s = .next (takeOrder i o (s.setPort i read))

/-- Every step keeps the port records in the conditions of R138, with a complete order waiting only behind an unread
reply or an order in progress (R141), and a store write in progress exactly while the B-port has an order in progress
(R142, R167). -/
def Obligations.PortsStaySound : Prop :=
  ∀ s t : State, s.PortsSound ∧ s.WriteSound → step s = .next t → t.PortsSound ∧ t.WriteSound

/-- The attention line (R144, R149): active while the output slots hold a FULL byte, or while no order is in progress,
no complete order waits and a change set has a member; inactive at every other moment and while device reset is
held. -/
def Obligations.AttentionLine : Prop :=
  ∀ (s : State) (i : PortId),
    s.atn i = true ↔
      s.held = false ∧
        ((∃ k : Fin 4, (s.port i).outSlots[k].isSome = true) ∨
          ((s.port i).inProgress = none ∧ (∃ k : Fin 4, (s.port i).inSlots[k] = none) ∧
            ((∃ p : Point, (s.port i).points[p] = true) ∨ ∃ z : Zone, (s.port i).zones[z] = true)))

/-! ## Orders and replies -/

/-- The order decoder's checks (R152 to R155, Table 8-2). Each code of Table 8-2 names its order and every other code
none; the command of an order is the ends of its four WR strobes, the code of the table first (assumption 13). A code
that Table 8-2 does not list is refused with UNKNOWN. An order from a port it is not accepted from is refused with PORT,
whatever its operands, the mode and the state. An operand that the order uses outside its range, the first or a later
one, is then refused with RANGE, before the mode and the state are looked at. Every such reply echoes the operands, and
nothing else changes. -/
def Obligations.ChecksBeforeTheOrder : Prop :=
  let codes : List (Nat × OrderKind) :=
    [(0x10, .qsys), (0x11, .qalm), (0x12, .qzon), (0x13, .qpnt), (0x14, .nxch), (0x20, .zalm), (0x21, .arst),
      (0x22, .ziso), (0x23, .zrin), (0x30, .ovrd), (0x31, .oval), (0x32, .fzon), (0x33, .eqrs), (0x40, .ndem),
      (0x41, .ptst), (0x42, .pthl), (0x43, .ptrd), (0x44, .cmen), (0x45, .cmlv), (0x50, .wpcf), (0x51, .wzcf),
      (0x52, .wscn), (0x53, .wdcf), (0x58, .rpcf), (0x59, .rzcf), (0x5A, .rscn), (0x5B, .rdcf)]
  (∀ (code : Byte) (k : OrderKind), orderKind code = some k ↔ (code.toNat, k) ∈ codes) ∧
  (∀ (i : PortId) (code b1 b2 b3 : Byte) (s s1 s2 s3 : State),
    exec (.wrStrobeEnd i true code) s = .next s1 → exec (.wrStrobeEnd i true b1) s1 = .next s2 →
    exec (.wrStrobeEnd i true b2) s2 = .next s3 →
    (∀ k, (code.toNat, k) ∈ codes → exec (orderCommand k i b1 b2 b3) s = exec (.wrStrobeEnd i true b3) s3) ∧
      exec (.unknownOrderCode i code b1 b2 b3) s = exec (.wrStrobeEnd i true b3) s3) ∧
  (∀ (s : State) (i : PortId) (code b1 b2 b3 : Byte), s.PortAtRest i → orderKind code = none →
    exec (.unknownOrderCode i code b1 b2 b3) s = .next (s.withReply i .unknown b1 b2 b3)) ∧
  ∀ (k : OrderKind) (i : PortId) (b1 b2 b3 : Byte) (s : State), s.PortAtRest i →
    let noAction : Byte → Prop := fun x => (4 ≤ x.toNat ∧ x.toNat ≤ 9) ∨ 110 < x.toNat
    ((k ∈ [.zalm, .arst, .ziso, .zrin] ∧ i ≠ .a) ∨ (k ∈ [.ovrd, .oval, .fzon] ∧ i ≠ .f) ∨ (k = .eqrs ∧ i = .a) ∨
      (k ∈ [.ndem, .ptst, .pthl, .ptrd, .cmen, .cmlv, .wpcf, .wzcf, .wscn, .wdcf, .rpcf, .rzcf, .rscn, .rdcf] ∧
        i ≠ .b) →
      exec (orderCommand k i b1 b2 b3) s = .next (s.withReply i .port b1 b2 b3)) ∧
    (portAllowed k i = true →
      (k ∈ [.qzon, .zalm, .ziso, .zrin, .fzon, .wzcf, .wscn, .rzcf, .rscn, .qalm] ∧ 31 < b1.toNat) ∨
        (k ∈ [.qpnt, .ovrd, .eqrs, .ndem, .wpcf, .rpcf, .ptrd, .ptst] ∧ 63 < b1.toNat) ∨
        (k = .qsys ∧ 2 < b1.toNat) ∨ (k = .nxch ∧ 1 < b1.toNat) ∨ (k ∈ [.wdcf, .rdcf] ∧ 3 < b1.toNat) ∨
        (k = .qpnt ∧ (2 < b2.toNat ∨ (b2.toNat = 2 ∧ 1 < b3.toNat))) ∨ (k = .ovrd ∧ 2 < b2.toNat) ∨
        (k = .ndem ∧ (b2.toNat = 0 ∨ noAction b2)) ∨
        (k = .ptst ∧ (b2.toNat = 0 ∨ 64 < b2.toNat ∨ 64 < b1.toNat + b2.toNat)) ∨
        (k ∈ [.wscn, .rscn] ∧ 63 < b2.toNat) ∨ (k = .wscn ∧ noAction b3) ∨
        (k ∈ [.wpcf, .rpcf] ∧ 21 < b2.toNat) ∨ (k ∈ [.wzcf, .rzcf] ∧ 2 < b2.toNat) ∨
        (k = .wpcf ∧ outsideTable pointFieldRanges b2.toNat b3.toNat) ∨
        (k = .wzcf ∧ outsideTable zoneFieldRanges b2.toNat b3.toNat) ∨
        (k = .wdcf ∧ outsideTable deviceFieldRanges b1.toNat b2.toNat) →
      exec (orderCommand k i b1 b2 b3) s = .next (s.withReply i .range b1 b2 b3))

/-- A refusal changes nothing (R153): whatever the order, if the decoder's answer is a reply with a code other than
DONE, the machine is as it was and the reply echoes the three operand bytes. -/
def Obligations.RefusalChangesNothing : Prop :=
  ∀ (i : PortId) (o : Order) (s t : State) (y : Reply),
    decodeOrder i o s = (t, some y) → y.code ≠ .done → t = s ∧ y.r1 = o.b1 ∧ y.r2 = o.b2 ∧ y.r3 = o.b3

/-- QSYS (R156): the three pages. QZON and QALM (R159). The codes are the numbers of Table 8-4. They change nothing but
the port that is answered. -/
def Obligations.SystemAndZoneQueries : Prop :=
  ∀ (s : State) (i : PortId) (b2 b3 : Byte), s.PortAtRest i →
    let mode : Nat := match s.plant.mode with
      | .normal => 0
      | .fire => 1
      | .restore => 2
      | .test => 3
      | .commission => 4
    let supply : Nat := match s.plant.supply.state with
      | .good => 0
      | .failed => 1
      | .settling => 2
    let test : Nat := match s.plant.test.state with
      | .idle => 0
      | .running => 1
      | .done => 2
      | .aborted => 3
    let origin : Origin → Nat := fun x => match x with
      | .line => 0
      | .port => 1
      | .firefighter => 2
    exec (.qsys i 0#8 b2 b3) s =
      .next (s.withReply i .done (byte (mode + 16 * supply)) (byte s.alarms.length)
        (match s.alarms with
          | [] => 0xFF#8
          | e :: _ => byte e.zone.val)) ∧
    exec (.qsys i 1#8 b2 b3) s =
      .next (s.withReply i .done (byte s.plant.sched.inUse) (byte s.plant.sched.limit)
        (byte s.plant.sched.queue.length)) ∧
    exec (.qsys i 2#8 b2 b3) s =
      .next (s.withReply i .done (byte test)
        (match s.plant.test.current with
          | none => 0xFF#8
          | some p => byte p.val)
        (byte s.plant.test.failed)) ∧
    (∀ z : Zone, ∀ e : Option AlarmEntry, e = entryOf z s.alarms →
      exec (.qzon i (byte z.val) b2 b3) s =
        .next (s.withReply i .done
          (byte ((if s.active z then 1 else 0) + (if e.isSome then 2 else 0) +
            (if e.map AlarmEntry.latched = some true then 4 else 0) + (if (s.zone z).isolated then 8 else 0) +
            (if (s.store.zone z).mode = .follow then 16 else 0)))
          (match listPosition z s.alarms with
            | none => 0xFF#8
            | some k => byte k)
          0#8)) ∧
    ∀ b1 : Byte, b1.toNat ≤ 31 →
      (∀ e, s.alarms[b1.toNat]? = some e →
        exec (.qalm i b1 b2 b3) s =
          .next (s.withReply i .done (byte e.zone.val) (byte (origin e.origin + if e.latched then 16 else 0))
            (byte s.alarms.length))) ∧
      (s.alarms.length ≤ b1.toNat →
        exec (.qalm i b1 b2 b3) s = .next (s.withReply i .done 0xFF#8 0xFF#8 (byte s.alarms.length)))

/-- QPNT. Page 0 (R157): kind and override, state, fault and flag. Page 1 (R157): the resolved demand. Page 2 (R158,
Table 8-1): the wait reason, and by half the last count or the last E, low eight bits first; all zero for a point that
is no fan; a half above 1 is refused with RANGE. The codes are the numbers of Table 8-4 and of the action byte. It
changes nothing but the port that is answered. -/
def Obligations.PointQueries : Prop :=
  ∀ (s : State) (i : PortId) (p : Point) (b3 : Byte), s.PortAtRest i →
    let c := s.store.point p
    let ch := s.plant.chan p
    let kind : Nat := match c.kind with
      | .unused => 0
      | .fan => 1
      | .damper => 2
    let override : Nat := match ch.override with
      | .auto => 0
      | .on => 1
      | .off => 2
    let position : DamperPos → Nat := fun x => match x with
      | .unproven => 0
      | .opening => 1
      | .opened => 2
      | .closing => 3
      | .closed => 4
      | .waitFan => 5
    let state : FanState → Nat := fun x => match x with
      | .idle => 0
      | .queued => 1
      | .starting => 2
      | .running => 3
      | .lost => 4
      | .runDown => 5
      | .fault => 6
    let damperFault : DamperFault → Nat := fun x => match x with
      | .none => 0
      | .stroke => 1
      | .conflict => 2
      | .drift => 3
    let fanFault : FanFault → Nat := fun x => match x with
      | .none => 0
      | .failStart => 1
      | .drive => 2
    let action : Action → Nat := fun x => match x with
      | .toOpen => 1
      | .toClose => 2
      | .stop => 3
      | .run v => v + 10
    let source : Source → Nat := fun x => match x with
      | .override => 0
      | .fire => 1
      | .unassigned => 2
      | .test => 3
      | .normal => 4
      | .restore => 5
    let reason : Option WaitReason → Nat := fun x => match x with
      | none => 0
      | some .path => 1
      | some .drive => 2
      | some .allowance => 3
      | some .spacing => 4
      | some .supply => 5
      | some .order => 6
    exec (.qpnt i (byte p.val) 0#8 b3) s =
      .next (match ch.unit with
        | .unused => s.withReply i .done (byte (kind + 16 * override)) 0xFF#8 0#8
        | .damper d =>
          s.withReply i .done (byte (kind + 16 * override)) (byte (position d.pos))
            (byte (damperFault d.fault + if d.timed then 16 else 0))
        | .fan f =>
          s.withReply i .done (byte (kind + 16 * override)) (byte (state f.state))
            (byte (fanFault f.fault + if f.driveAlarm then 16 else 0))) ∧
    exec (.qpnt i (byte p.val) 1#8 b3) s =
      .next (match ch.resolved with
        | none => s.withReply i .done 0#8 0xFF#8 0xFF#8
        | some d =>
          s.withReply i .done (byte (action d.action)) (byte (source d.source))
            (match d.fireZone with
              | none => 0xFF#8
              | some z => byte z.val)) ∧
    (1 < b3.toNat → exec (.qpnt i (byte p.val) 2#8 b3) s = .next (s.withReply i .range (byte p.val) 2#8 b3)) ∧
    (b3.toNat ≤ 1 →
      (∀ f : Fan, s.plant.fan? p = some f →
        let n := if b3 = 0#8 then f.proof.lastCount else f.proof.lastE
        exec (.qpnt i (byte p.val) 2#8 b3) s =
          .next (s.withReply i .done (byte (reason f.wait)) (byte (n % 256)) (byte (n / 256)))) ∧
      (s.plant.fan? p = none →
        exec (.qpnt i (byte p.val) 2#8 b3) s = .next (s.withReply i .done 0#8 0#8 0#8)))

/-- NXCH (R146, R160): the lowest member of the port's own set of the kind named leaves it and is reported with the
number left; an empty set is reported as none. Nothing else changes. A kind above 1 is refused with RANGE. -/
def Obligations.NxchCollects : Prop :=
  ∀ (s : State) (i : PortId) (b2 b3 : Byte), s.PortAtRest i →
    let r := s.port i
    (∀ p : Point, r.points[p] = true → (∀ q : Point, q < p → r.points[q] = false) →
      exec (.nxch i 0#8 b2 b3) s =
        .next ((s.setPort i { r with points := r.points.set p false }).withReply i .done 0#8 (byte p.val)
          (byte (allPoints.filter fun q => r.points[q] && q != p).length))) ∧
    ((∀ p : Point, r.points[p] = false) →
      exec (.nxch i 0#8 b2 b3) s = .next (s.withReply i .done 0#8 0xFF#8 0#8)) ∧
    (∀ z : Zone, r.zones[z] = true → (∀ q : Zone, q < z → r.zones[q] = false) →
      exec (.nxch i 1#8 b2 b3) s =
        .next ((s.setPort i { r with zones := r.zones.set z false }).withReply i .done 1#8 (byte z.val)
          (byte (allZones.filter fun q => r.zones[q] && q != z).length))) ∧
    ((∀ z : Zone, r.zones[z] = false) →
      exec (.nxch i 1#8 b2 b3) s = .next (s.withReply i .done 1#8 0xFF#8 0#8)) ∧
    ∀ b1 : Byte, 1 < b1.toNat → exec (.nxch i b1 b2 b3) s = .next (s.withReply i .range b1 b2 b3)

/-! ## The configuration store -/

/-- The store reads (R164, R171): the value as last completed, with the first two operands echoed (byte 2 is 00h for
RDCF), a field code outside the tables refused with RANGE. They change nothing but the port. A field takes exactly the
values of Tables 9-1 and 9-2; one written reads back its value, and the write of it disturbs no other field (R166,
R167). The write of one field or entry leaves every other point's and zone's record, every other scenario entry and
the device settings as they were, and of a record or of the settings every other field (R167). The codes are those of
Tables 9-1 and 9-2, and the action byte has the values of R155. -/
def Obligations.StoreReadsAndFields : Prop :=
  (∀ (s : State) (p : Point) (z : Zone) (b1 b2 b3 : Byte), s.PortAtRest .b →
    exec (.rpcf .b (byte p.val) b2 b3) s =
      .next (match (s.store.point p).getField b2.toNat with
        | some v => s.withReply .b .done (byte p.val) b2 (byte v)
        | none => s.withReply .b .range (byte p.val) b2 b3) ∧
    exec (.rzcf .b (byte z.val) b2 b3) s =
      .next (match (s.store.zone z).getField b2.toNat with
        | some v => s.withReply .b .done (byte z.val) b2 (byte v)
        | none => s.withReply .b .range (byte z.val) b2 b3) ∧
    exec (.rscn .b (byte z.val) (byte p.val) b3) s =
      .next (s.withReply .b .done (byte z.val) (byte p.val)
        (match s.store.entry z p with
          | none => 0#8
          | some a => actionByte a)) ∧
    exec (.rdcf .b b1 b2 b3) s =
      .next (match s.store.device.getField b1.toNat with
        | some v => s.withReply .b .done b1 0#8 (byte v)
        | none => s.withReply .b .range b1 b2 b3)) ∧
  (∀ (c c' : PointCfg) (field v : Nat), c.setField field v = some c' →
    c'.getField field = some v ∧ ∀ g, g ≠ field → c'.getField g = c.getField g) ∧
  (∀ (c c' : ZoneCfg) (field v : Nat), c.setField field v = some c' →
    c'.getField field = some v ∧ ∀ g, g ≠ field → c'.getField g = c.getField g) ∧
  (∀ (c c' : DeviceCfg) (field v : Nat), c.setField field v = some c' →
    c'.getField field = some v ∧ ∀ g, g ≠ field → c'.getField g = c.getField g) ∧
  (∀ (c : PointCfg) (field v : Nat),
    (c.setField field v).isSome = true ↔ field ≤ 21 ∧ ¬outsideTable pointFieldRanges field v) ∧
  (∀ (c : ZoneCfg) (field v : Nat),
    (c.setField field v).isSome = true ↔ field ≤ 2 ∧ ¬outsideTable zoneFieldRanges field v) ∧
  (∀ (c : DeviceCfg) (field v : Nat),
    (c.setField field v).isSome = true ↔ field ≤ 3 ∧ ¬outsideTable deviceFieldRanges field v) ∧
  (∀ c : PointCfg,
    let path : Option Point → Nat := fun x => match x with
      | some p => p.val
      | none => 64
    c.getField 0 = some (match c.kind with
      | .unused => 0
      | .fan => 1
      | .damper => 2) ∧
    c.getField 1 = some (match c.unassigned with
      | .normal => 0
      | .active => 1
      | .rest => 2) ∧
    c.getField 2 = some (match c.driveSense with
      | .energiseOpen => 0
      | .energiseClose => 1) ∧
    c.getField 3 = some (match c.feedback with
      | .twoLimit => 0
      | .openLimit => 1
      | .timed => 2) ∧
    c.getField 4 = some (match c.speedControl with
      | .variable => 0
      | .fixed => 1) ∧
    c.getField 5 = some (match c.driveContact with
      | .none => 0
      | .opensOnFault => 1
      | .closesOnFault => 2) ∧
    [c.path0, c.path1, c.path2, c.path3].map path = [6, 7, 8, 9].map (fun k => (c.getField k).getD 0) ∧
    [c.tSTK, c.tRD, c.tPL, c.nGATE, c.nK, c.nTOL, c.nRATE, c.nPPR, c.nMIN, c.nOVS, c.nUNIT, c.nSTG] =
      [10, 11, 12, 13, 14, 15, 16, 17, 18, 19, 20, 21].map (fun k => (c.getField k).getD 0)) ∧
  (∀ c : ZoneCfg,
    c.getField 0 = some (match c.mode with
      | .latch => 0
      | .follow => 1) ∧
    c.getField 1 = some (match c.contact with
      | .normallyOpen => 0
      | .normallyClosed => 1) ∧
    c.getField 2 = some c.tZF) ∧
  (∀ c : DeviceCfg, [c.nALW, c.nSPC, c.tSET, c.tFBF].map some = [0, 1, 2, 3].map c.getField) ∧
  (∀ (b : Byte) (a : Action), actionOf b = some (some a) → actionByte a = b) ∧
  (actionOf 0#8 = some none ∧ actionOf 1#8 = some (some .toOpen) ∧ actionOf 2#8 = some (some .toClose) ∧
    actionOf 3#8 = some (some .stop) ∧ ∀ n ≤ 100, actionOf (byte (n + 10)) = some (some (.run n))) ∧
  ∀ st : Store,
    (∀ (p : Point) (field v : Nat) (c : PointCfg), (st.point p).setField field v = some c →
      let st' := (WriteTarget.point p field v).apply st
      st'.point p = c ∧ (∀ q, q ≠ p → st'.point q = st.point q) ∧ st' = { st with points := st'.points }) ∧
    (∀ (z : Zone) (field v : Nat) (c : ZoneCfg), (st.zone z).setField field v = some c →
      let st' := (WriteTarget.zone z field v).apply st
      st'.zone z = c ∧ (∀ y, y ≠ z → st'.zone y = st.zone y) ∧ st' = { st with zones := st'.zones }) ∧
    (∀ (z : Zone) (p : Point) (e : Option Action),
      let st' := (WriteTarget.scenario z p e).apply st
      st'.entry z p = e ∧ (∀ y q, y ≠ z ∨ q ≠ p → st'.entry y q = st.entry y q) ∧
        st' = { st with scenario := st'.scenario }) ∧
    ∀ (field v : Nat) (c : DeviceCfg), st.device.setField field v = some c →
      (WriteTarget.device field v).apply st = { st with device := c }

/-- A store write with a defined field and a value in its range (R164, R167, R170). In COMMISSION it is accepted: it is
the port's order in progress, the store write timer stands at 48 000 CLKIN cycles, the store is as it was, no reply
is built and ATN is inactive. In any other mode it is refused with MODE. -/
def Obligations.StoreWriteAccepted : Prop :=
  ∀ (s : State) (k : OrderKind) (b1 b2 b3 : Byte) (tgt : WriteTarget), s.PortAtRest .b →
    ((k = .wpcf ∧ ∃ p : Point, b1 = byte p.val ∧ tgt = .point p b2.toNat b3.toNat ∧
        ((s.store.point p).setField b2.toNat b3.toNat).isSome = true) ∨
      (k = .wzcf ∧ ∃ z : Zone, b1 = byte z.val ∧ tgt = .zone z b2.toNat b3.toNat ∧
        ((s.store.zone z).setField b2.toNat b3.toNat).isSome = true) ∨
      (k = .wscn ∧ ∃ (z : Zone) (p : Point) (e : Option Action), b1 = byte z.val ∧ b2 = byte p.val ∧
        actionOf b3 = some e ∧ tgt = .scenario z p e) ∨
      (k = .wdcf ∧ tgt = .device b1.toNat b2.toNat ∧
        (s.store.device.setField b1.toNat b2.toNat).isSome = true)) →
    (s.plant.mode ≠ .commission →
      exec (orderCommand k .b b1 b2 b3) s = .next (s.withReply .b .mode b1 b2 b3)) ∧
    (s.plant.mode = .commission →
      ∃ t, exec (orderCommand k .b b1 b2 b3) s = .next t ∧
        t = { s.setPort .b
              { s.port .b with inProgress := some { code := k.code, b1 := b1, b2 := b2, b3 := b3 } } with
              write := some { target := tgt, cycles := 48000 } } ∧
        t.atn .b = false)

/-- The completion of a store write (R142, R167, R169): the field takes its new value and no other field of the store
changes, the write is over, and the DONE reply with the operands echoed stands at the B-port. With no write in
progress nothing happens. A scenario entry, a zone's mode or tZF, and a device setting other than nALW change nothing
else. A contact write reads the zone's filtered level anew: a changed activity makes the line arrival or line clear,
unless the zone is isolated, and marks the zone (R5); what it enters in the list puts a sound machine in FIRE. nALW is
the limit in force at once if it is at least the allowance in use or at most one fan is in STARTING, and else is the
pending limit (R111). A point-field write re-initialises its point: the last fire demand is, with no test running,
that of the resolution made in the event in FIRE, and else absent (R39); with no test running, a sound queue and
outside RESTORE the demand of R35 is handed to a record in its after-reset state, a damper's of R72 from UNPROVEN, a
fan's of R101 in RUNDOWN with its full tRD (R73, R102); the point is marked. In the re-initialised records the period
phase at 0 (assumption 30) and a settled filter at an input that is not read (assumption 21) are the model's choices.
A contact write marks exactly the zones of R18 and every point whose resolved demand changes (R24). -/
def Obligations.StoreWriteCompletes : Prop :=
  (∀ s : State, s.held = false → s.write = none → exec .storeWriteCompletes s = .next s) ∧
  ∀ (s : State) (w : StoreWrite) (o : Order), s.held = false → s.write = some w →
    (s.port .b).inProgress = some o → (s.port .b).replyWaiting = false →
    ∃ t, exec .storeWriteCompletes s = .next t ∧ t.store = w.target.apply s.store ∧ t.write = none ∧
      t.held = false ∧ t.pending = s.pending ∧ t.zones = s.zones ∧
      (({ (s.port .b).withReply .done o.b1 o.b2 o.b3 with inProgress := none } : PortRec).Marked (t.port .b)) ∧
      (s.port .a).Marked (t.port .a) ∧ (s.port .f).Marked (t.port .f) ∧
      ((∃ z p e, w.target = .scenario z p e) ∨ (∃ z field v, w.target = .zone z field v ∧ field ≠ 1) ∨
          (∃ field v, w.target = .device field v ∧ field ≠ 0) →
        t = { s.setPort .b { (s.port .b).withReply .done o.b1 o.b2 o.b3 with inProgress := none } with
              store := w.target.apply s.store, write := none }) ∧
      (∀ (z : Zone) (v : Nat), w.target = .zone z 1 v →
        s.plant.EntriesKept t.plant ∧ (t.active z ≠ s.active z → t.ZoneMarked z) ∧
          s.ZoneMarksExact t ∧ s.DemandsMarked t ∧
          t.alarms =
            (if (s.zone z).isolated = true ∨ t.active z = s.active z then s.alarms
            else if t.active z = true then lineArrival (t.store.zone z).mode z s.alarms
            else lineClear z s.alarms) ∧
          (s.ModeSound → t.alarms ≠ s.alarms → t.alarms ≠ [] → t.plant.mode = .fire)) ∧
      (∀ v : Nat, w.target = .device 0 v →
        t.alarms = s.alarms ∧ s.plant.EntriesKept t.plant ∧
          (s.plant.sched.inUse ≤ v ∨ s.plant.nStarting ≤ 1 →
            t.plant.sched.limit = v ∧ t.plant.sched.pendingLimit = none ∧
              (s.plant.sched.queue = [] →
                t.plant = { s.plant with sched := { s.plant.sched with limit := v, pendingLimit := none } })) ∧
          (v < s.plant.sched.inUse → 1 < s.plant.nStarting →
            t.plant = { s.plant with sched := { s.plant.sched with pendingLimit := some v } })) ∧
      (∀ (p : Point) (field v : Nat), w.target = .point p field v →
        let c := t.store.point p
        (t.plant.chan p).unit.kind = t.store.kind p ∧ t.alarms = s.alarms ∧ t.PointMarked p ∧
          (t.store.kind p = .unused →
            (t.plant.chan p).resolved = none ∧ (t.plant.chan p).override = .auto ∧ (t.plant.chan p).cmd = false) ∧
          (∀ q, (t.plant.chan q).normal = (s.plant.chan q).normal) ∧
          (s.NoTest →
            (t.plant.chan p).lastFire =
              if t.store.kind p ≠ .unused ∧ t.plant.mode = .fire then
                some (fireDemand t.env p (t.plant.chan p).normal).action
              else none) ∧
          (s.NoTest → s.QueueSound → s.plant.mode ≠ .restore → t.store.kind p ≠ .unused →
            let x := resolution t.env t.plant.mode p (t.plant.chan p)
            (t.plant.chan p).resolved = some x ∧
            (t.store.kind p = .damper →
              ∃ d turning, t.plant.damper? p = some d ∧ (t.plant.chan p).cmd = damperCmd c d ∧
                d =
                  Damper.takeDemand c turning x.action.damperEnd x.source
                    { pos := .unproven, held := none, fault := .none, stroke := .idle, timed := false
                      fbaFilt := { filtered := (s.plant.chan p).fba, timer := .idle }
                      fbbFilt := { filtered := (s.plant.chan p).fbb, timer := .idle } } ∧
                (turning = true → anyPathFanTurning t.store t.plant p = true)) ∧
            (t.store.kind p = .fan →
              ∃ f, t.plant.fan? p = some f ∧ f.fault = .none ∧
                f.held = some { want := x.action.fanWant, source := x.source } ∧
                (0 < c.tRD →
                  (t.plant.chan p).cmd = false ∧
                  f =
                    { state := .runDown, fault := .none
                      held := some { want := x.action.fanWant, source := x.source }
                      wait := none, runDown := .running (8 * c.tRD) 0, proofLimit := .idle
                      driveAlarm := driveFaultIndicated c (s.plant.chan p).fbb
                      fbbFilt := { filtered := (s.plant.chan p).fbb, timer := .idle }
                      proof :=
                        { gate := .idle, count := 0, expected := 0, low := 0, high := 0, inRun := 0, outRun := 0
                          lastCount := 0, lastE := 0 }
                      speed := { applied := 0, pending := none, phase := 0 } }) ∧
                (c.tRD = 0 →
                  (f.wantsRun = false → f.state = .idle) ∧
                    (f.wantsRun = true → f.state = .queued ∨ f.state = .starting)))))

/-! ## Device reset -/

/-- Device reset. It begins and is held (R149, R151): every CMD and SPD is at rest, every ATN inactive, and any store
write in progress is ended; the alarm list has no entries until its rebuild (R9), and with it the mode is not FIRE
(R40, by assumption 19); while it is held no strobe, select line or order has any effect (R149). That no timer, store
write, boundary or report has one either, that every line, of a zone, of a limit, FBB, FBA and SUPFAIL, moves alone,
and that nothing comes of an empty queue, is the model's reading of R151 (assumption 19). A reset during a store write
leaves the field's old value or its new value, with every other field as it was (R168): which of the two is a free
value of the model (assumption 3). With no write in progress the store holds what it held. At its end (R19, R20, R29,
R33, R49, R119, R120, R137, R147, Table 7-1): every zone line SETTLED at its input's level and not isolated; one entry
of origin LINE for each active zone in ascending number, latched by the mode; the mode FIRE if there is one and else
NORMAL; overrides AUTO and normal demands at rest; the allowance in use 0, the queue empty and the spacing timer idle
under the stored limit, in a store with no tRD of 0 (a fan with tRD 0 may join, and by assumption 14 start, in the
event); the supply by its line; no test; the port records of Table 7-1. All this is read from the store as the reset
leaves it (R172). -/
def Obligations.ResetHeldRests : Prop :=
  (∀ s : State, ∃ t, exec .deviceResetHeld s = .next t ∧ t.held = true ∧ t.write = none ∧
    (∀ p, t.cmd p = false ∧ t.spd p = false) ∧ (∀ i, t.atn i = false) ∧ t.zones = s.zones ∧
    t.alarms = [] ∧ t.plant.mode ≠ .fire ∧ t.pending = s.pending) ∧
  (∀ s : State, s.held = true →
    (∀ i sel x, exec (.wrStrobeEnd i sel x) s = .next s) ∧ (∀ i sel, exec (.rdStrobe i sel) s = .next s) ∧
    (∀ i, exec (.selInactive i) s = .next s) ∧ (∀ k i b1 b2 b3, exec (orderCommand k i b1 b2 b3) s = .next s) ∧
    (∀ i code b1 b2 b3, exec (.unknownOrderCode i code b1 b2 b3) s = .next s) ∧
    (∀ p, exec (.strokeTimerRunsOut p) s = .next s ∧ exec (.gateTimerRunsOut p) s = .next s ∧
      exec (.runDownTimerRunsOut p) s = .next s ∧ exec (.proofLimitTimerRunsOut p) s = .next s ∧
      exec (.periodBoundary p) s = .next s ∧ exec (.fbbFilterTimerRunsOut p) s = .next s ∧
      ∀ i, exec (.limitFilterTimerRunsOut p i) s = .next s) ∧
    (∀ z, exec (.zoneFilterTimerRunsOut z) s = .next s) ∧
    exec .spacingTimerRunsOut s = .next s ∧ exec .supfailFilterTimerRunsOut s = .next s ∧
    exec .settleTimerRunsOut s = .next s ∧ exec .joiningReport s = .next s ∧ exec .storeWriteCompletes s = .next s ∧
    step { s with pending := [] } = .next { s with pending := [] } ∧
    (∀ z level, exec (.zoneRawLevelChange z level) s = .next (s.setZone z { s.zone z with raw := level })) ∧
    (∀ p level,
      exec (.limitRawLevelChange p .fba level) s =
          .next { s with plant := s.plant.setChan p { s.plant.chan p with fba := level } } ∧
        exec (.limitRawLevelChange p .fbb level) s =
          .next { s with plant := s.plant.setChan p { s.plant.chan p with fbb := level } } ∧
        exec (.fbbRawLevelChange p level) s =
          .next { s with plant := s.plant.setChan p { s.plant.chan p with fbb := level } } ∧
        exec (.fbaRisingEdge p) s =
          .next { s with plant := s.plant.setChan p { s.plant.chan p with fba := .high } }) ∧
    ∀ level, exec (.supfailRawLevelChange level) s =
      .next { s with plant := { s.plant with supply := { s.plant.supply with raw := level } } }) ∧
  (∀ (s t : State), exec .deviceReset s = .next t ∨ exec .deviceResetHeld s = .next t →
    t.write = none ∧
      (s.write = none → t.store = s.store) ∧
      ∀ w, s.write = some w → t.store = s.store ∨ t.store = w.target.apply s.store) ∧
  ∀ s : State,
    ∃ t, exec .deviceReset s = .next t ∧ t.held = false ∧ t.pending = s.pending ∧
      (∀ z, t.zone z =
        { raw := (s.zone z).raw, filter := { filtered := (s.zone z).raw, timer := .idle }, isolated := false }) ∧
      t.alarms =
        (allZones.filter t.active).map (fun z =>
          { zone := z, origin := .line, latched := (t.store.zone z).mode == .latch }) ∧
      t.plant.mode = (if t.alarms = [] then .normal else .fire) ∧
      (∀ p, (t.plant.chan p).override = .auto ∧ (t.plant.chan p).testDemand = none ∧
        (t.plant.chan p).normal = (if t.store.kind p = .damper then .toClose else .stop) ∧
        (t.plant.chan p).fba = (s.plant.chan p).fba ∧ (t.plant.chan p).fbb = (s.plant.chan p).fbb) ∧
      t.plant.sched.limit = t.store.device.nALW ∧ t.plant.sched.pendingLimit = none ∧
      ((∀ p, t.store.kind p = .fan → 0 < (t.store.point p).tRD) →
        t.plant.sched.inUse = 0 ∧ t.plant.sched.queue = [] ∧ t.plant.sched.spacing = .idle) ∧
      (∀ p ∈ t.plant.sched.queue, t.store.kind p = .fan ∧ (t.store.point p).tRD = 0) ∧
      t.plant.supply =
        { raw := s.plant.supply.raw, filter := { filtered := s.plant.supply.raw, timer := .idle }
          state := if s.plant.supply.raw = .low then .failed else .good, settle := .idle } ∧
      t.plant.joinReports = [] ∧
      t.plant.test =
        { state := .idle, first := 0, count := 0, current := none, step := none, home := none, results := []
          failed := 0 } ∧
      ∀ i, (t.port i).inSlots = Vector.replicate 4 none ∧ (t.port i).outSlots = Vector.replicate 4 none ∧
        (t.port i).wptr = 0 ∧ (t.port i).rptr = 0 ∧ (t.port i).inProgress = none ∧ (t.port i).lastDriven = 0#8 ∧
        (t.port i).reset = true ∧ (t.port i).overrun = false ∧ (t.port i).underrun = false ∧
        (t.port i).short = false ∧ (∀ z : Zone, (t.port i).zones[z] = true) ∧
        ∀ p : Point, (t.port i).points[p] = (t.store.kind p != .unused)

/-! ## The progress of a proof test -/

/-- The progress of a proof test. What the step of a point begins with (R123): an UNUSED point is passed; an entry ON
or OFF gives SKIP-OVERRIDE, a fault SKIP-FAULT; a fan whose home action is RUN is judged at once, PASS in RUNNING and
else FAIL-START (R128); a damper is in DAMPER-OUT with the opposite of its home action (R125); a fan whose home action
is STOP is in FAN-START with RUN at nOVS (R129). How a step ends: the entry is added to the list, the failed count
counts the FAIL outcomes, the test demand is absent; after the last point the test is DONE, in NORMAL, with every
point at its normal demand (R132). What ends or moves a step: of a damper, a fault (R127), the proof at the test
position, which begins DAMPER-BACK, and the proof at home, which is a PASS (R126); of a fan, RUNNING, which begins
FAN-STOP, FAULT, and IDLE in FAN-STOP (R130); a source that has become OVERRIDE (R131). A report about a point that is
not under test is ignored (R124). An arrival, here a ZALM, ends the test as ABORTED and resolves every point to its
fire demand (R134). -/
def Obligations.ProofTestProgress : Prop :=
  (∀ (env : Env) (ev : Ev) (n : Nat) (p : Point), ev.plant.mode = .test →
    let c := env.store.point p
    let ch := ev.plant.chan p
    let begun := beginSteps env (n + 1) p.val ev
    let t := begun.plant
    let gives : TestOutcome → Prop := fun o =>
      ∃ more, t.test.results = ev.plant.test.results ++ { point := p, outcome := o } :: more ∧ (n = 0 → more = [])
    let waits : TestStep → Action → Action → Action → Prop := fun step home asked handed =>
      t.test = { ev.plant.test with current := some p, step := some step, home := some home } ∧
        (t.chan p).testDemand = some asked ∧
        (t.chan p).resolved = some { action := handed, source := .test, fireZone := none }
    (ch.unit = .unused →
      begun = beginSteps env n (p.val + 1) (ev.withTest fun x => { x with current := some p })) ∧
    (ch.unit ≠ .unused → ch.override ≠ .auto → gives .skipOverride) ∧
    (∀ d : Damper, ch.unit = .damper d → c.kind = .damper → ch.override = .auto →
      (d.fault ≠ .none → gives .skipFault) ∧
      (d.fault = .none →
        (ch.normal.inForm c = .toOpen → waits .damperOut .toOpen .toClose .toClose) ∧
        (ch.normal.inForm c = .toClose → waits .damperOut .toClose .toOpen .toOpen))) ∧
    (∀ f : Fan, ch.unit = .fan f → c.kind = .fan → ch.override = .auto →
      (f.state = .fault → gives .skipFault) ∧
      (f.state ≠ .fault →
        (∀ v, ch.normal.inForm c = .run v → gives (if f.state = .running then .pass else .failStart)) ∧
        (ch.normal.inForm c = .stop → waits .fanStart .stop (.run c.nOVS) (.run (max c.nOVS c.nMIN)))))) ∧
  (∀ (env : Env) (ev : Ev) (p : Point) (o : TestOutcome),
    let t := (endStep env p o ev).plant
    ∃ more, t.test.results = ev.plant.test.results ++ { point := p, outcome := o } :: more ∧
      t.test.failed =
        ev.plant.test.failed +
          (({ point := p, outcome := o } :: more : List TestEntry).filter fun e => e.outcome.failed).length ∧
      (t.chan p).testDemand = none ∧
      (ev.plant.test.first + ev.plant.test.count = p.val + 1 →
        more = [] ∧ t.mode = .normal ∧ t.test.state = .done ∧ t.test.step = none ∧ t.test.home = none ∧
          t.test.current = ev.plant.test.current ∧
          ∀ q, env.store.kind q ≠ .unused → (ev.plant.chan q).override = .auto →
            (t.chan q).resolved =
              some { action := (ev.plant.chan q).normal.inForm (env.store.point q), source := .normal
                     fireZone := none })) ∧
  (∀ (env : Env) (ev : Ev) (p : Point), ev.plant.mode = .test →
    let ends : Report → TestOutcome → Prop := fun r o => takeReport env ev r = endStep env p o ev
    let moves : Report → TestStep → Action → Prop := fun r step asked =>
      let t := (takeReport env ev r).plant
      t.test = { ev.plant.test with step := some step } ∧ (t.chan p).testDemand = some asked ∧
        (env.store.kind p ≠ .unused → (ev.plant.chan p).override = .auto →
          (t.chan p).resolved =
            some { action := asked.inForm (env.store.point p), source := .test, fireZone := none })
    (ev.underTest p = true →
      (∀ home : DamperEnd, ev.plant.test.home = some (match home with
          | .openEnd => .toOpen
          | .closedEnd => .toClose) →
        (∀ pos, ev.plant.test.step = some .damperOut ∨ ev.plant.test.step = some .damperBack →
          ends (.damper p pos .stroke) .failStroke ∧ ends (.damper p pos .conflict) .failConflict ∧
            ends (.damper p pos .drift) .failDrift) ∧
        (ev.plant.test.step = some .damperOut →
          moves (.damper p (some home.other.proven) .none) .damperBack (match home with
            | .openEnd => .toOpen
            | .closedEnd => .toClose)) ∧
        (ev.plant.test.step = some .damperBack → ends (.damper p (some home.proven) .none) .pass)) ∧
      (ev.plant.test.step = some .fanStart →
        (∀ k, moves (.fan p .running k) .fanStop .stop) ∧ ends (.fan p .fault .failStart) .failStart ∧
          ends (.fan p .fault .drive) .failDrive) ∧
      (ev.plant.test.step = some .fanStop → ∀ k, ends (.fan p .idle k) .pass) ∧
      (ev.plant.test.step ≠ none → ends (.override p) .skipOverride)) ∧
    (ev.underTest p = false → ∀ pos fault state k,
      takeReport env ev (.damper p pos fault) = ev ∧ takeReport env ev (.fan p state k) = ev ∧
        takeReport env ev (.override p) = ev)) ∧
  ∀ (s : State) (z : Zone) (p : Point) (b2 b3 : Byte), s.PortAtRest .a → s.ModeSound →
    s.plant.test.state = .running → s.plant.test.current = some p → (s.zone z).isolated = false →
    ∃ t, exec (.zalm .a (byte z.val) b2 b3) s = .next t ∧ t.plant.mode = .fire ∧
      t.plant.test =
        { s.plant.test with
          state := .aborted
          step := none
          home := none
          results := s.plant.test.results ++ [{ point := p, outcome := .aborted }] } ∧
      (t.plant.chan p).testDemand = none ∧
      ∀ q, s.store.kind q ≠ .unused → (s.plant.chan q).override = .auto →
        (t.plant.chan q).resolved =
          some (fireDemand
            { store := s.store, alarms := [{ zone := z, origin := .port, latched := true }] } q (s.plant.chan q).normal)

/-! ## After device reset -/

/-- The end of a device reset, the equipment (R49, R72, R101): every point has the record of its stored kind and the
demand of R35; a fan with tRD above 0 stands in RUNDOWN with its full tRD and CMD de-energised; a damper demanded
CLOSE with such a fan on its path stands in WAITFAN. -/
def Obligations.ResetStateOfEquipment : Prop :=
  ∀ s : State, s.write = none →
    ∃ t, exec .deviceReset s = .next t ∧
      (∀ p, (t.plant.chan p).unit.kind = s.store.kind p) ∧
      (∀ p, s.store.kind p ≠ .unused →
        (t.plant.chan p).resolved = some (resolution t.env t.plant.mode p (t.plant.chan p))) ∧
      (∀ p, s.store.kind p = .unused → (t.plant.chan p).resolved = none ∧ (t.plant.chan p).cmd = false) ∧
      (∀ (p : Point) (f : Fan), t.plant.fan? p = some f → 0 < (s.store.point p).tRD →
        f.state = .runDown ∧ f.runDown = .running (8 * (s.store.point p).tRD) 0 ∧ f.fault = .none ∧
          (t.plant.chan p).cmd = false) ∧
      (∀ (p : Point) (d : Damper) (x : Demand), t.plant.damper? p = some d → (t.plant.chan p).resolved = some x →
        x.action = .toClose → (∃ q ∈ s.store.pathFans p, 0 < (s.store.point q).tRD) → d.pos = .waitFan)

/-- The state right after reset is sound in every one of these ways. Its store holds the delivery values of R166 and its
lines stand high, which is the model's choice (assumption 5). -/
def Obligations.ResetIsSound : Prop :=
  State.reset.ListSound ∧ State.reset.ModeSound ∧ State.reset.StoreInRange ∧ State.reset.PortsSound ∧
    State.reset.WriteSound ∧ State.reset.KindsSound ∧ State.reset.OverridesSound ∧ State.reset.CmdSound ∧
    State.reset.InterlockSound ∧ State.reset.FansSound ∧ State.reset.DampersSound ∧ State.reset.QueueSound ∧
    State.reset.AllowanceSound ∧ State.reset.SupplySound ∧ State.reset.TestSound ∧ State.reset.ZoneFiltersSound
end

