-- ==== Sys2Proof/Laws/State.lean ====
section
/-! SUPPORT. What each update of a record leaves and changes: one lemma per field, and reading after writing for the
numbered collections (channels, zone lines, ports). -/

namespace Sys2Proof.Machine

/-! ## Channels of a plant -/

@[simp] theorem Plant.chan_setChan_self (pl : Plant) (p : Point) (c : Channel) : (pl.setChan p c).chan p = c := by
  simp [Plant.chan, Plant.setChan]

@[simp] theorem Plant.chan_setChan_ne (pl : Plant) {p q : Point} (c : Channel) (h : q ≠ p) :
    (pl.setChan p c).chan q = pl.chan q := by
  have h' : p.val ≠ q.val := fun e => h (Fin.ext e.symm)
  simp [Plant.chan, Plant.setChan, h']

theorem Plant.chan_setChan (pl : Plant) (p q : Point) (c : Channel) :
    (pl.setChan p c).chan q = if q = p then c else pl.chan q := by
  by_cases h : q = p
  · subst h; simp
  · simp [h]

@[simp] theorem Plant.setChan_setChan (pl : Plant) (p : Point) (c d : Channel) :
    (pl.setChan p c).setChan p d = pl.setChan p d := by
  simp [Plant.setChan]

/-- A plant is one with a channel replaced by itself. -/
@[simp] theorem Plant.setChan_chan (pl : Plant) (p : Point) : pl.setChan p (pl.chan p) = pl := by
  simp [Plant.setChan, Plant.chan]

@[simp] theorem Plant.setChan_mode (pl : Plant) (p : Point) (c : Channel) : (pl.setChan p c).mode = pl.mode := rfl
@[simp] theorem Plant.setChan_sched (pl : Plant) (p : Point) (c : Channel) : (pl.setChan p c).sched = pl.sched := rfl
@[simp] theorem Plant.setChan_supply (pl : Plant) (p : Point) (c : Channel) :
    (pl.setChan p c).supply = pl.supply := rfl
@[simp] theorem Plant.setChan_test (pl : Plant) (p : Point) (c : Channel) : (pl.setChan p c).test = pl.test := rfl
@[simp] theorem Plant.setChan_joinReports (pl : Plant) (p : Point) (c : Channel) :
    (pl.setChan p c).joinReports = pl.joinReports := rfl
@[simp] theorem Plant.setChan_draws (pl : Plant) (p : Point) (c : Channel) : (pl.setChan p c).draws = pl.draws := rfl

theorem Plant.damper?_setChan (pl : Plant) (p q : Point) (c : Channel) :
    (pl.setChan p c).damper? q = if q = p then c.damper? else pl.damper? q := by
  simp only [Plant.damper?, Plant.chan_setChan]; split <;> rfl

theorem Plant.fan?_setChan (pl : Plant) (p q : Point) (c : Channel) :
    (pl.setChan p c).fan? q = if q = p then c.fan? else pl.fan? q := by
  simp only [Plant.fan?, Plant.chan_setChan]; split <;> rfl

/-- A point has a damper record exactly when its channel holds one. -/
theorem Plant.damper?_eq_some {pl : Plant} {p : Point} {d : Damper} :
    pl.damper? p = some d ↔ (pl.chan p).unit = .damper d := by
  cases h : (pl.chan p).unit <;> simp [Plant.damper?, Channel.damper?, h]

/-- A point has a fan record exactly when its channel holds one. -/
theorem Plant.fan?_eq_some {pl : Plant} {p : Point} {f : Fan} :
    pl.fan? p = some f ↔ (pl.chan p).unit = .fan f := by
  cases h : (pl.chan p).unit <;> simp [Plant.fan?, Channel.fan?, h]

/-! ## An event in progress -/

@[simp] theorem Ev.start_plant (pl : Plant) : (Ev.start pl).plant = pl := rfl
@[simp] theorem Ev.start_marks (pl : Plant) : (Ev.start pl).marks = [] := rfl
@[simp] theorem Ev.start_reports (pl : Plant) : (Ev.start pl).reports = [] := rfl
@[simp] theorem Ev.start_evalDue (pl : Plant) : (Ev.start pl).evalDue = false := rfl
@[simp] theorem Ev.start_joined (pl : Plant) : (Ev.start pl).joined = [] := rfl

@[simp] theorem Ev.mark_plant (p : Point) (ev : Ev) : (ev.mark p).plant = ev.plant := rfl
@[simp] theorem Ev.mark_marks (p : Point) (ev : Ev) : (ev.mark p).marks = p :: ev.marks := rfl
@[simp] theorem Ev.mark_reports (p : Point) (ev : Ev) : (ev.mark p).reports = ev.reports := rfl
@[simp] theorem Ev.mark_evalDue (p : Point) (ev : Ev) : (ev.mark p).evalDue = ev.evalDue := rfl
@[simp] theorem Ev.mark_joined (p : Point) (ev : Ev) : (ev.mark p).joined = ev.joined := rfl

@[simp] theorem Ev.markIf_plant (b : Bool) (p : Point) (ev : Ev) : (ev.markIf b p).plant = ev.plant := by
  cases b <;> rfl
@[simp] theorem Ev.markIf_marks (b : Bool) (p : Point) (ev : Ev) :
    (ev.markIf b p).marks = if b then p :: ev.marks else ev.marks := by cases b <;> rfl
@[simp] theorem Ev.markIf_reports (b : Bool) (p : Point) (ev : Ev) : (ev.markIf b p).reports = ev.reports := by
  cases b <;> rfl
@[simp] theorem Ev.markIf_evalDue (b : Bool) (p : Point) (ev : Ev) : (ev.markIf b p).evalDue = ev.evalDue := by
  cases b <;> rfl
@[simp] theorem Ev.markIf_joined (b : Bool) (p : Point) (ev : Ev) : (ev.markIf b p).joined = ev.joined := by
  cases b <;> rfl

@[simp] theorem Ev.report_plant (r : Report) (ev : Ev) : (ev.report r).plant = ev.plant := rfl
@[simp] theorem Ev.report_marks (r : Report) (ev : Ev) : (ev.report r).marks = ev.marks := rfl
@[simp] theorem Ev.report_reports (r : Report) (ev : Ev) : (ev.report r).reports = ev.reports ++ [r] := rfl
@[simp] theorem Ev.report_evalDue (r : Report) (ev : Ev) : (ev.report r).evalDue = ev.evalDue := rfl
@[simp] theorem Ev.report_joined (r : Report) (ev : Ev) : (ev.report r).joined = ev.joined := rfl

@[simp] theorem Ev.evaluateIf_plant (b : Bool) (ev : Ev) : (ev.evaluateIf b).plant = ev.plant := rfl
@[simp] theorem Ev.evaluateIf_marks (b : Bool) (ev : Ev) : (ev.evaluateIf b).marks = ev.marks := rfl
@[simp] theorem Ev.evaluateIf_reports (b : Bool) (ev : Ev) : (ev.evaluateIf b).reports = ev.reports := rfl
@[simp] theorem Ev.evaluateIf_evalDue (b : Bool) (ev : Ev) : (ev.evaluateIf b).evalDue = (ev.evalDue || b) := rfl
@[simp] theorem Ev.evaluateIf_joined (b : Bool) (ev : Ev) : (ev.evaluateIf b).joined = ev.joined := rfl

@[simp] theorem Ev.withPlant_plant (g : Plant → Plant) (ev : Ev) : (ev.withPlant g).plant = g ev.plant := rfl
@[simp] theorem Ev.withPlant_marks (g : Plant → Plant) (ev : Ev) : (ev.withPlant g).marks = ev.marks := rfl
@[simp] theorem Ev.withPlant_reports (g : Plant → Plant) (ev : Ev) : (ev.withPlant g).reports = ev.reports := rfl
@[simp] theorem Ev.withPlant_evalDue (g : Plant → Plant) (ev : Ev) : (ev.withPlant g).evalDue = ev.evalDue := rfl
@[simp] theorem Ev.withPlant_joined (g : Plant → Plant) (ev : Ev) : (ev.withPlant g).joined = ev.joined := rfl

@[simp] theorem Ev.setChan_plant (p : Point) (c : Channel) (ev : Ev) :
    (ev.setChan p c).plant = ev.plant.setChan p c := rfl
@[simp] theorem Ev.setChan_marks (p : Point) (c : Channel) (ev : Ev) : (ev.setChan p c).marks = ev.marks := rfl
@[simp] theorem Ev.setChan_reports (p : Point) (c : Channel) (ev : Ev) : (ev.setChan p c).reports = ev.reports := rfl
@[simp] theorem Ev.setChan_evalDue (p : Point) (c : Channel) (ev : Ev) : (ev.setChan p c).evalDue = ev.evalDue := rfl
@[simp] theorem Ev.setChan_joined (p : Point) (c : Channel) (ev : Ev) : (ev.setChan p c).joined = ev.joined := rfl

@[simp] theorem Ev.withSched_chan (g : Scheduler → Scheduler) (ev : Ev) (p : Point) :
    (ev.withSched g).plant.chan p = ev.plant.chan p := rfl
@[simp] theorem Ev.withSched_sched (g : Scheduler → Scheduler) (ev : Ev) :
    (ev.withSched g).plant.sched = g ev.plant.sched := rfl
@[simp] theorem Ev.withSched_mode (g : Scheduler → Scheduler) (ev : Ev) :
    (ev.withSched g).plant.mode = ev.plant.mode := rfl
@[simp] theorem Ev.withSched_supply (g : Scheduler → Scheduler) (ev : Ev) :
    (ev.withSched g).plant.supply = ev.plant.supply := rfl
@[simp] theorem Ev.withSched_test (g : Scheduler → Scheduler) (ev : Ev) :
    (ev.withSched g).plant.test = ev.plant.test := rfl
@[simp] theorem Ev.withSched_reports (g : Scheduler → Scheduler) (ev : Ev) :
    (ev.withSched g).reports = ev.reports := rfl
@[simp] theorem Ev.withSched_marks (g : Scheduler → Scheduler) (ev : Ev) : (ev.withSched g).marks = ev.marks := rfl

@[simp] theorem Ev.withTest_chan (g : TestRecord → TestRecord) (ev : Ev) (p : Point) :
    (ev.withTest g).plant.chan p = ev.plant.chan p := rfl
@[simp] theorem Ev.withTest_test (g : TestRecord → TestRecord) (ev : Ev) :
    (ev.withTest g).plant.test = g ev.plant.test := rfl
@[simp] theorem Ev.withTest_mode (g : TestRecord → TestRecord) (ev : Ev) :
    (ev.withTest g).plant.mode = ev.plant.mode := rfl
@[simp] theorem Ev.withTest_sched (g : TestRecord → TestRecord) (ev : Ev) :
    (ev.withTest g).plant.sched = ev.plant.sched := rfl
@[simp] theorem Ev.withTest_supply (g : TestRecord → TestRecord) (ev : Ev) :
    (ev.withTest g).plant.supply = ev.plant.supply := rfl

@[simp] theorem Ev.setMode_chan (m : Mode) (ev : Ev) (p : Point) : (ev.setMode m).plant.chan p = ev.plant.chan p := rfl
@[simp] theorem Ev.setMode_mode (m : Mode) (ev : Ev) : (ev.setMode m).plant.mode = m := rfl
@[simp] theorem Ev.setMode_sched (m : Mode) (ev : Ev) : (ev.setMode m).plant.sched = ev.plant.sched := rfl
@[simp] theorem Ev.setMode_supply (m : Mode) (ev : Ev) : (ev.setMode m).plant.supply = ev.plant.supply := rfl
@[simp] theorem Ev.setMode_test (m : Mode) (ev : Ev) : (ev.setMode m).plant.test = ev.plant.test := rfl

@[simp] theorem Ev.draw_chan (ev : Ev) (p : Point) : ev.draw.plant.chan p = ev.plant.chan p := rfl
@[simp] theorem Ev.draw_mode (ev : Ev) : ev.draw.plant.mode = ev.plant.mode := rfl
@[simp] theorem Ev.draw_sched (ev : Ev) : ev.draw.plant.sched = ev.plant.sched := rfl
@[simp] theorem Ev.draw_supply (ev : Ev) : ev.draw.plant.supply = ev.plant.supply := rfl
@[simp] theorem Ev.draw_test (ev : Ev) : ev.draw.plant.test = ev.plant.test := rfl
@[simp] theorem Ev.draw_reports (ev : Ev) : ev.draw.reports = ev.reports := rfl

/-! ## Ports -/

@[simp] theorem Ports.get_set_self (ps : Ports) (i : PortId) (r : PortRec) : (ps.set i r).get i = r := by
  cases i <;> rfl
theorem Ports.get_set_ne (ps : Ports) {i j : PortId} (r : PortRec) (h : j ≠ i) : (ps.set i r).get j = ps.get j := by
  cases i <;> cases j <;> first | rfl | exact absurd rfl h
@[simp] theorem Ports.set_set (ps : Ports) (i : PortId) (r r' : PortRec) : (ps.set i r).set i r' = ps.set i r' := by
  cases i <;> rfl
@[simp] theorem Ports.set_get (ps : Ports) (i : PortId) : ps.set i (ps.get i) = ps := by cases i <;> rfl

@[simp] theorem State.port_setPort_self (s : State) (i : PortId) (r : PortRec) : (s.setPort i r).port i = r := by
  simp [State.port, State.setPort]
theorem State.port_setPort_ne (s : State) {i j : PortId} (r : PortRec) (h : j ≠ i) :
    (s.setPort i r).port j = s.port j := Ports.get_set_ne s.ports r h
@[simp] theorem State.setPort_setPort (s : State) (i : PortId) (r r' : PortRec) :
    (s.setPort i r).setPort i r' = s.setPort i r' := by simp [State.setPort]
@[simp] theorem State.setPort_port (s : State) (i : PortId) : s.setPort i (s.port i) = s := by
  simp [State.setPort, State.port]
@[simp] theorem State.setPort_held (s : State) (i : PortId) (r : PortRec) : (s.setPort i r).held = s.held := rfl
@[simp] theorem State.setPort_zones (s : State) (i : PortId) (r : PortRec) : (s.setPort i r).zones = s.zones := rfl
@[simp] theorem State.setPort_zone (s : State) (i : PortId) (r : PortRec) (z : Zone) :
    (s.setPort i r).zone z = s.zone z := rfl
@[simp] theorem State.setPort_active (s : State) (i : PortId) (r : PortRec) (z : Zone) :
    (s.setPort i r).active z = s.active z := rfl
@[simp] theorem State.setPort_alarms (s : State) (i : PortId) (r : PortRec) : (s.setPort i r).alarms = s.alarms := rfl
@[simp] theorem State.setPort_store (s : State) (i : PortId) (r : PortRec) : (s.setPort i r).store = s.store := rfl
@[simp] theorem State.setPort_write (s : State) (i : PortId) (r : PortRec) : (s.setPort i r).write = s.write := rfl
@[simp] theorem State.setPort_plant (s : State) (i : PortId) (r : PortRec) : (s.setPort i r).plant = s.plant := rfl
@[simp] theorem State.setPort_pending (s : State) (i : PortId) (r : PortRec) :
    (s.setPort i r).pending = s.pending := rfl
@[simp] theorem State.setPort_clkin (s : State) (i : PortId) (r : PortRec) : (s.setPort i r).clkin = s.clkin := rfl
@[simp] theorem State.setPort_periodEnds (s : State) (i : PortId) (r : PortRec) :
    (s.setPort i r).periodEnds = s.periodEnds := rfl
@[simp] theorem State.setPort_env (s : State) (i : PortId) (r : PortRec) : (s.setPort i r).env = s.env := rfl

/-! ## Zone lines -/

@[simp] theorem State.zone_setZone_self (s : State) (z : Zone) (l : ZoneLine) : (s.setZone z l).zone z = l := by
  simp [State.zone, State.setZone]
theorem State.zone_setZone_ne (s : State) {z y : Zone} (l : ZoneLine) (h : y ≠ z) :
    (s.setZone z l).zone y = s.zone y := by
  have h' : z.val ≠ y.val := fun e => h (Fin.ext e.symm)
  simp [State.zone, State.setZone, h']
@[simp] theorem State.setZone_setZone (s : State) (z : Zone) (l l' : ZoneLine) :
    (s.setZone z l).setZone z l' = s.setZone z l' := by simp [State.setZone]
@[simp] theorem State.setZone_held (s : State) (z : Zone) (l : ZoneLine) : (s.setZone z l).held = s.held := rfl
@[simp] theorem State.setZone_alarms (s : State) (z : Zone) (l : ZoneLine) : (s.setZone z l).alarms = s.alarms := rfl
@[simp] theorem State.setZone_store (s : State) (z : Zone) (l : ZoneLine) : (s.setZone z l).store = s.store := rfl
@[simp] theorem State.setZone_write (s : State) (z : Zone) (l : ZoneLine) : (s.setZone z l).write = s.write := rfl
@[simp] theorem State.setZone_plant (s : State) (z : Zone) (l : ZoneLine) : (s.setZone z l).plant = s.plant := rfl
@[simp] theorem State.setZone_ports (s : State) (z : Zone) (l : ZoneLine) : (s.setZone z l).ports = s.ports := rfl
@[simp] theorem State.setZone_port (s : State) (z : Zone) (l : ZoneLine) (i : PortId) :
    (s.setZone z l).port i = s.port i := rfl
@[simp] theorem State.setZone_pending (s : State) (z : Zone) (l : ZoneLine) :
    (s.setZone z l).pending = s.pending := rfl
@[simp] theorem State.setZone_clkin (s : State) (z : Zone) (l : ZoneLine) : (s.setZone z l).clkin = s.clkin := rfl
@[simp] theorem State.setZone_periodEnds (s : State) (z : Zone) (l : ZoneLine) :
    (s.setZone z l).periodEnds = s.periodEnds := rfl

/-! ## An event run on the machine -/

@[simp] theorem State.runEvent_held (g : Env → Ev → Ev) (s : State) : (s.runEvent g).held = s.held := rfl
@[simp] theorem State.runEvent_zones (g : Env → Ev → Ev) (s : State) : (s.runEvent g).zones = s.zones := rfl
@[simp] theorem State.runEvent_zone (g : Env → Ev → Ev) (s : State) (z : Zone) :
    (s.runEvent g).zone z = s.zone z := rfl
@[simp] theorem State.runEvent_alarms (g : Env → Ev → Ev) (s : State) : (s.runEvent g).alarms = s.alarms := rfl
@[simp] theorem State.runEvent_store (g : Env → Ev → Ev) (s : State) : (s.runEvent g).store = s.store := rfl
@[simp] theorem State.runEvent_write (g : Env → Ev → Ev) (s : State) : (s.runEvent g).write = s.write := rfl
@[simp] theorem State.runEvent_pending (g : Env → Ev → Ev) (s : State) : (s.runEvent g).pending = s.pending := rfl
@[simp] theorem State.runEvent_clkin (g : Env → Ev → Ev) (s : State) : (s.runEvent g).clkin = s.clkin := rfl
@[simp] theorem State.runEvent_periodEnds (g : Env → Ev → Ev) (s : State) :
    (s.runEvent g).periodEnds = s.periodEnds := rfl
theorem State.runEvent_plant (g : Env → Ev → Ev) (s : State) :
    (s.runEvent g).plant = (finishEvent s.env (g s.env (.start s.plant))).plant := rfl
theorem State.runEvent_ports (g : Env → Ev → Ev) (s : State) :
    (s.runEvent g).ports = s.ports.markAll (finishEvent s.env (g s.env (.start s.plant))).marks [] := rfl

end Sys2Proof.Machine
end

