-- ==== Sys2Proof/Laws/Plant.lean ====
section
/-! SUPPORT. What the events of the plant leave as it was. `SeqFrame R` says that the relation `R` between a plant before
and a plant after survives the two kinds of update that the sequencers and the scheduler make, `PlantFrame R` that it
also survives those of the resolver and the test unit. One lemma per operation then carries `R` through it. At the end
`R` is given its uses: the entries that no event of the plant touches, the supply monitor, and all that the sequencers
and the scheduler leave alone. -/

namespace Sys2Proof.Machine

/-- A relation between plants that holds across the updates of the sequencers and the scheduler: of a point's sequencer
record (by one of the same kind) with its CMD, and of the scheduler. -/
structure SeqFrame (R : Plant → Plant → Prop) : Prop where
  refl : ∀ pl, R pl pl
  trans : ∀ {a b c}, R a b → R b c → R a c
  unit : ∀ pl p u b, u.kind = (pl.chan p).unit.kind → R pl (pl.setChan p { pl.chan p with unit := u, cmd := b })
  sched : ∀ pl sc, R pl { pl with sched := sc }

/-- A relation that also holds across the updates of the resolver and the test unit: of a point's demands, and of
everything that is neither a channel nor the supply. -/
structure PlantFrame (R : Plant → Plant → Prop) : Prop extends SeqFrame R where
  demands : ∀ pl p r l t, R pl (pl.setChan p { pl.chan p with resolved := r, lastFire := l, testDemand := t })
  rest : ∀ pl m sc te j n, R pl { pl with mode := m, sched := sc, test := te, joinReports := j, draws := n }

/-- A relation that a fold's step keeps, the fold keeps. -/
theorem foldl_frame {α : Type} {R : Plant → Plant → Prop} (F : SeqFrame R) (f : Ev → α → Ev)
    (h : ∀ ev x, R ev.plant (f ev x).plant) (l : List α) (ev : Ev) : R ev.plant (l.foldl f ev).plant := by
  induction l generalizing ev with
  | nil => exact F.refl _
  | cons x xs ih => exact F.trans (h ev x) (ih (f ev x))

section Sequencers
variable {R : Plant → Plant → Prop} (F : SeqFrame R)
include F

theorem withSched_frame (g : Scheduler → Scheduler) (ev : Ev) : R ev.plant (ev.withSched g).plant :=
  F.sched ev.plant (g ev.plant.sched)

/-! ## The sequencers -/

theorem setDamper_frame {ev : Ev} {p : Point} {o : Damper} (d : Damper) (b : Bool)
    (h : ev.plant.damper? p = some o) :
    R ev.plant (ev.plant.setChan p { ev.plant.chan p with unit := .damper d, cmd := b }) :=
  F.unit _ _ _ _ (by rw [Plant.damper?_eq_some.mp h]; rfl)

theorem setFan_frame {ev : Ev} {p : Point} {o : Fan} (f : Fan) (b : Bool) (h : ev.plant.fan? p = some o) :
    R ev.plant (ev.plant.setChan p { ev.plant.chan p with unit := .fan f, cmd := b }) :=
  F.unit _ _ _ _ (by rw [Plant.fan?_eq_some.mp h]; rfl)

theorem putDamper_frame (env : Env) (p : Point) (d : Damper) (ev : Ev) : R ev.plant (putDamper env p d ev).plant := by
  unfold putDamper
  split
  · exact F.refl _
  · rename_i o h
    have k := setDamper_frame F d (damperCmd (env.store.point p) d) h
    dsimp only
    split <;> simpa using k

theorem releaseOne_frame (env : Env) (ev : Ev) (p : Point) : R ev.plant (releaseOne env ev p).plant := by
  unfold releaseOne
  split
  · exact F.refl _
  · split
    · exact putDamper_frame F ..
    · exact F.refl _

theorem releaseWaiting_frame (env : Env) (ev : Ev) : R ev.plant (releaseWaiting env ev).plant :=
  foldl_frame F _ (releaseOne_frame F env) _ ev

theorem testPendingLimit_frame (ev : Ev) : R ev.plant ev.testPendingLimit.plant := by
  unfold Ev.testPendingLimit
  split
  · exact F.refl _
  · split
    · exact withSched_frame F _ ev
    · exact F.refl _

theorem unitsReturned_frame (n : Nat) (ev : Ev) : R ev.plant (ev.unitsReturned n).plant :=
  F.trans (withSched_frame F _ ev) (testPendingLimit_frame F (ev.withSched fun sc => { sc with inUse := sc.inUse - n }))

theorem noteJoining_frame (p : Point) (ev : Ev) : R ev.plant (ev.noteJoining p).plant := by
  unfold Ev.noteJoining; split <;> exact F.refl _

theorem schedulerFollows_frame (env : Env) (p : Point) (o f : Fan) (ev : Ev) :
    R ev.plant (schedulerFollows env p o f ev).plant := by
  have join : R ev.plant
      (if o.state ≠ .queued ∧ f.state = .queued then
        ((ev.withSched (·.join env.store p)).evaluateIf true).noteJoining p
      else if o.state = .queued ∧ f.state ≠ .queued then (ev.withSched (·.leave p)).evaluateIf true
      else ev).plant := by
    split
    · exact F.trans (withSched_frame F _ ev) (noteJoining_frame F p ((ev.withSched _).evaluateIf true))
    · split
      · exact withSched_frame F _ ev
      · exact F.refl _
  refine F.trans join ?_
  unfold schedulerFollows
  dsimp only [Ev.evaluateIf_plant]
  by_cases hs : o.state = .starting ∧ f.state ≠ .starting
  · rw [if_pos hs]; exact unitsReturned_frame F _ _
  · rw [if_neg hs]; exact F.refl _

theorem putFan_frame (env : Env) (p : Point) (f : Fan) (ev : Ev) : R ev.plant (putFan env p f ev).plant := by
  unfold putFan
  split
  · exact F.refl _
  · rename_i o h
    refine F.trans (setFan_frame F (f.norm (env.store.point p)) (f.norm (env.store.point p)).state.energised h) ?_
    dsimp only
    generalize hx : (Ev.markIf (o.state != (f.norm (env.store.point p)).state ||
      o.fault != (f.norm (env.store.point p)).fault || o.driveAlarm != (f.norm (env.store.point p)).driveAlarm) p _) = x
    have e : x.plant = ev.plant.setChan p { ev.plant.chan p with
        unit := .fan (f.norm (env.store.point p)), cmd := (f.norm (env.store.point p)).state.energised } := by
      rw [← hx]; simp
    rw [← e]
    have k := schedulerFollows_frame F env p o (f.norm (env.store.point p)) x
    generalize schedulerFollows env p o (f.norm (env.store.point p)) x = y at k
    refine F.trans k ?_
    have k2 : R y.plant (if o.state ≠ (f.norm (env.store.point p)).state then
        y.report (.fan p (f.norm (env.store.point p)).state (f.norm (env.store.point p)).fault) else y).plant := by
      split <;> exact F.refl _
    split
    · exact F.trans k2 (releaseWaiting_frame F env _)
    · exact k2

theorem runDownEnds_frame (env : Env) (p : Point) (ev : Ev) : R ev.plant (runDownEnds env p ev).plant := by
  unfold runDownEnds
  split
  · exact F.refl _
  · split
    · exact putFan_frame F ..
    · exact F.refl _

theorem enterRunDown_frame (env : Env) (p : Point) (ev : Ev) : R ev.plant (enterRunDown env p ev).plant := by
  unfold enterRunDown
  split
  · exact F.refl _
  · dsimp only
    split
    · exact F.trans (putFan_frame F ..) (runDownEnds_frame F ..)
    · exact putFan_frame F ..

theorem interlockTrip_frame (env : Env) (ev : Ev) (q : Point) : R ev.plant (interlockTrip env ev q).plant := by
  unfold interlockTrip
  split
  · exact F.refl _
  · split
    · exact enterRunDown_frame F ..
    · exact F.refl _

theorem tripPathFans_frame (env : Env) (p : Point) (ev : Ev) : R ev.plant (tripPathFans env p ev).plant :=
  foldl_frame F _ (interlockTrip_frame F env) _ ev

theorem moveDamper_frame (env : Env) (p : Point) (d : Damper) (ev : Ev) :
    R ev.plant (moveDamper env p d ev).plant := by
  unfold moveDamper
  dsimp only
  split
  · exact F.trans (putDamper_frame F ..) (tripPathFans_frame F ..)
  · exact putDamper_frame F ..

theorem handDamper_frame (env : Env) (p : Point) (e : DamperEnd) (src : Source) (ev : Ev) :
    R ev.plant (handDamper env p e src ev).plant := by
  unfold handDamper
  split
  · exact F.refl _
  · exact moveDamper_frame F ..

theorem handFan_frame (env : Env) (p : Point) (w : FanWant) (src : Source) (ev : Ev) :
    R ev.plant (handFan env p w src ev).plant := by
  unfold handFan
  split
  · exact F.refl _
  · dsimp only
    split
    all_goals first
      | exact putFan_frame F ..
      | exact F.trans (putFan_frame F ..) (enterRunDown_frame F ..)
      | (split
         · exact F.trans (putFan_frame F ..) (enterRunDown_frame F ..)
         · exact putFan_frame F ..)

theorem handDemand_frame (env : Env) (p : Point) (d : Demand) (ev : Ev) :
    R ev.plant (handDemand env p d ev).plant := by
  unfold handDemand
  split
  · exact F.refl _
  · exact handDamper_frame F ..
  · exact handFan_frame F ..

theorem supplyTripOne_frame (env : Env) (ev : Ev) (q : Point) : R ev.plant (supplyTripOne env ev q).plant := by
  unfold supplyTripOne
  split
  · exact F.refl _
  · split
    · exact enterRunDown_frame F ..
    · exact F.refl _

theorem supplyTrip_frame (env : Env) (ev : Ev) : R ev.plant (supplyTrip env ev).plant :=
  F.trans (foldl_frame F _ (supplyTripOne_frame F env) allPoints ev)
    (F.trans (withSched_frame F _ _) (testPendingLimit_frame F _))

/-! ## The evaluation -/

theorem setWait_frame {ev : Ev} {p : Point} {o : Fan} (f : Fan) (r : WaitReason)
    (h : ev.plant.fan? p = some o) : R ev.plant (setWait p f r ev).plant := by
  have k := setFan_frame F { f with wait := some r } (ev.plant.chan p).cmd h
  exact k

theorem startFan_frame (env : Env) (p : Point) (f : Fan) (ev : Ev) : R ev.plant (startFan env p f ev).plant :=
  F.trans (putFan_frame F env p _ ev) (withSched_frame F _ _)

theorem evaluationWalk_frame (env : Env) (b : Bool) (ps : List Point) (ev : Ev) :
    R ev.plant (evaluationWalk env b ps ev).plant := by
  induction ps generalizing b ev with
  | nil => exact F.refl _
  | cons p ps ih =>
    unfold evaluationWalk
    split
    · exact ih _ _
    · rename_i f h
      split
      · exact F.trans (setWait_frame F f _ h) (ih _ _)
      · split
        · exact F.trans (setWait_frame F f _ h) (ih _ _)
        · split
          · exact F.trans (setWait_frame F f _ h) (ih _ _)
          · exact F.trans (startFan_frame F ..) (ih _ _)

theorem evaluate_frame (env : Env) (ev : Ev) : R ev.plant (evaluate env ev).plant := evaluationWalk_frame F ..

end Sequencers

section Events
variable {R : Plant → Plant → Prop} (F : PlantFrame R)
include F

theorem withTest_frame (g : TestRecord → TestRecord) (ev : Ev) : R ev.plant (ev.withTest g).plant :=
  F.rest ev.plant ev.plant.mode ev.plant.sched (g ev.plant.test) ev.plant.joinReports ev.plant.draws

theorem setMode_frame (m : Mode) (ev : Ev) : R ev.plant (ev.setMode m).plant :=
  F.rest ev.plant m ev.plant.sched ev.plant.test ev.plant.joinReports ev.plant.draws

theorem draw_frame (ev : Ev) : R ev.plant ev.draw.plant :=
  F.rest ev.plant ev.plant.mode ev.plant.sched ev.plant.test ev.plant.joinReports (ev.plant.draws + 1)

/-! ## The resolver -/

theorem storeLastFire_frame (env : Env) (p : Point) (ev : Ev) : R ev.plant (storeLastFire env p ev).plant := by
  unfold storeLastFire
  split
  · exact F.demands ev.plant p _ _ _
  · exact F.refl _

theorem handOver_frame (env : Env) (p : Point) (d : Demand) (ev : Ev) : R ev.plant (handOver env p d ev).plant := by
  have k : R ev.plant (ev.setChan p { ev.plant.chan p with resolved := some d }).plant :=
    F.demands ev.plant p (some d) _ _
  unfold handOver
  dsimp only
  refine F.trans ?_ (handDemand_frame F.toSeqFrame ..)
  split <;> exact k

theorem resolvePoint_frame (env : Env) (b : Bool) (ev : Ev) (p : Point) :
    R ev.plant (resolvePoint env b ev p).plant := by
  unfold resolvePoint
  split
  · exact F.demands ev.plant p _ _ _
  · dsimp only
    split
    · exact F.trans (storeLastFire_frame F ..) (handOver_frame F ..)
    · exact storeLastFire_frame F ..

theorem resolveInOrder_frame (env : Env) (b : Bool) (ps : List Point) (ev : Ev) :
    R ev.plant (resolveInOrder env b ps ev).plant := foldl_frame F.toSeqFrame _ (resolvePoint_frame F env b) ps ev

theorem storeAllLastFire_frame (env : Env) (ev : Ev) : R ev.plant (storeAllLastFire env ev).plant := by
  refine foldl_frame F.toSeqFrame _ (fun ev p => ?_) allPoints ev
  split
  · exact F.refl _
  · exact storeLastFire_frame F ..

theorem resolveAll_frame (env : Env) (b : Bool) (ev : Ev) : R ev.plant (resolveAll env b ev).plant :=
  F.trans (storeAllLastFire_frame F env ev) (F.trans (draw_frame F _) (resolveInOrder_frame F ..))

/-! ## The proof test -/

theorem setTestDemand_frame (env : Env) (p : Point) (a : Option Action) (ev : Ev) :
    R ev.plant (setTestDemand env p a ev).plant :=
  F.trans (F.demands ev.plant p (ev.plant.chan p).resolved (ev.plant.chan p).lastFire a)
    (resolvePoint_frame F env false (ev.setChan p { ev.plant.chan p with testDemand := a }) p)

theorem testDone_frame (env : Env) (ev : Ev) : R ev.plant (testDone env ev).plant :=
  F.trans (withTest_frame F _ ev) (F.trans (setMode_frame F _ _) (resolveAll_frame F ..))

theorem beginSteps_frame (env : Env) (n k : Nat) (ev : Ev) : R ev.plant (beginSteps env n k ev).plant := by
  induction n generalizing k ev with
  | zero => exact testDone_frame F ..
  | succ n ih =>
    unfold beginSteps
    split
    · rename_i h
      dsimp only
      refine F.trans (withTest_frame F (fun t => { t with current := some ⟨k, h⟩ }) ev) ?_
      split
      · exact ih _ _
      · exact F.trans (withTest_frame F _ _) (ih _ _)
      · exact F.trans (withTest_frame F _ _) (setTestDemand_frame F ..)
      · exact F.trans (withTest_frame F _ _) (setTestDemand_frame F ..)
    · exact testDone_frame F ..

theorem endStep_frame (env : Env) (p : Point) (o : TestOutcome) (ev : Ev) :
    R ev.plant (endStep env p o ev).plant :=
  F.trans (withTest_frame F _ ev) (F.trans (setTestDemand_frame F ..) (beginSteps_frame F ..))

theorem takeDamperReport_frame (env : Env) (p : Point) (pos : Option DamperPos) (x : DamperFault) (ev : Ev) :
    R ev.plant (takeDamperReport env p pos x ev).plant := by
  unfold takeDamperReport
  split
  · split
    · exact endStep_frame F ..
    · split
      · exact F.trans (withTest_frame F _ ev) (setTestDemand_frame F ..)
      · exact F.refl _
  · split
    · exact endStep_frame F ..
    · split
      · exact endStep_frame F ..
      · exact F.refl _
  · exact F.refl _

theorem takeFanReport_frame (env : Env) (p : Point) (st : FanState) (x : FanFault) (ev : Ev) :
    R ev.plant (takeFanReport env p st x ev).plant := by
  unfold takeFanReport
  split
  · split
    · exact F.trans (withTest_frame F _ ev) (setTestDemand_frame F ..)
    · exact endStep_frame F ..
    · exact F.refl _
  · split
    · exact endStep_frame F ..
    · exact F.refl _
  · exact F.refl _

theorem takeJoinReport_frame (env : Env) (r : JoinReport) (ev : Ev) : R ev.plant (takeJoinReport env r ev).plant := by
  unfold takeJoinReport
  split
  · split
    · exact endStep_frame F ..
    · exact endStep_frame F ..
    · exact F.refl _
  · exact F.refl _

theorem checkRestore_frame (env : Env) (ev : Ev) : R ev.plant (checkRestore env ev).plant := by
  unfold checkRestore
  split
  · exact F.trans (setMode_frame F _ ev) (resolveAll_frame F ..)
  · exact F.refl _

theorem takeReport_frame (env : Env) (ev : Ev) (r : Report) : R ev.plant (takeReport env ev r).plant := by
  cases r with
  | damper p pos x =>
    simp only [takeReport]
    split
    · exact takeDamperReport_frame F ..
    · exact F.refl _
  | fan p st x =>
    simp only [takeReport]
    split
    · exact F.trans (checkRestore_frame F ..) (takeFanReport_frame F ..)
    · exact checkRestore_frame F ..
  | override p =>
    simp only [takeReport]
    split
    · exact endStep_frame F ..
    · exact F.refl _
  | restoreCheck => exact checkRestore_frame F ..

theorem abortTest_frame (ev : Ev) : R ev.plant (abortTest ev).plant := by
  unfold abortTest
  split
  · exact withTest_frame F _ ev
  · exact F.trans (F.demands ev.plant _ _ _ none) (withTest_frame F _ (ev.setChan _ _))

/-! ## The event as a whole -/

theorem settle_frame (env : Env) (n : Nat) (ev : Ev) : R ev.plant (settle env n ev).plant := by
  induction n generalizing ev with
  | zero => exact F.refl _
  | succ n ih =>
    unfold settle
    split
    · exact F.refl _
    · exact F.trans (foldl_frame F.toSeqFrame _ (takeReport_frame F env) _ { ev with reports := [] }) (ih _)

theorem settleAll_frame (env : Env) (ev : Ev) : R ev.plant (settleAll env ev).plant := settle_frame F ..

theorem finishEvent_frame (env : Env) (ev : Ev) : R ev.plant (finishEvent env ev).plant := by
  refine F.trans (settleAll_frame F env ev) ?_
  unfold finishEvent
  dsimp only
  have k : R (settleAll env ev).plant
      (if (settleAll env ev).evalDue then evaluate env (settleAll env ev) else settleAll env ev).plant := by
    split
    · exact evaluate_frame F.toSeqFrame ..
    · exact F.refl _
  refine F.trans k ?_
  exact F.rest _ _ _ _ _ _

/-- An event of the plant keeps what its first part keeps. -/
theorem runEvent_frame (g : Env → Ev → Ev) (s : State) (h : R s.plant (g s.env (.start s.plant)).plant) :
    R s.plant (s.runEvent g).plant := F.trans h (finishEvent_frame F ..)

theorem listReport_frame (env : Env) (ev : Ev) : R ev.plant (listReport env ev).plant := by
  unfold listReport
  dsimp only
  have k : R ev.plant
      (if ev.plant.mode = .test ∧ modeAfterReport ev.plant.mode env.alarms.isEmpty = .fire then abortTest ev
      else ev).plant := by
    split
    · exact abortTest_frame F ev
    · exact F.refl _
  have k2 := F.trans k (F.trans (setMode_frame F (modeAfterReport ev.plant.mode env.alarms.isEmpty) _)
    (resolveAll_frame F env false _))
  split <;> exact k2

/-- The end of an event at the zones keeps it. -/
theorem zonesFollow_frame (s t : State) : R t.plant (zonesFollow s t).plant := by
  unfold zonesFollow
  split
  · exact F.refl _
  · exact runEvent_frame F listReport { t with ports := t.ports.markAll [] (changedZones s t) }
      (listReport_frame F _ (.start t.plant))

end Events

/-! ## The uses -/

/-- The lines, the override entries, the normal-demand entries and the kinds of the records: no sequencer, resolver,
test or scheduler operation touches them. -/
theorem entriesKept_frame : PlantFrame Plant.EntriesKept where
  refl _ _ := ⟨rfl, rfl, rfl, rfl, rfl⟩
  trans h k p :=
    ⟨(k p).1.trans (h p).1, (k p).2.1.trans (h p).2.1, (k p).2.2.1.trans (h p).2.2.1,
      (k p).2.2.2.1.trans (h p).2.2.2.1, (k p).2.2.2.2.trans (h p).2.2.2.2⟩
  unit pl p u b h q := by
    rw [Plant.chan_setChan]; split
    · rename_i e; subst e; exact ⟨rfl, rfl, rfl, rfl, h⟩
    · exact ⟨rfl, rfl, rfl, rfl, rfl⟩
  demands pl p r l t q := by
    rw [Plant.chan_setChan]; split
    · rename_i e; subst e; exact ⟨rfl, rfl, rfl, rfl, rfl⟩
    · exact ⟨rfl, rfl, rfl, rfl, rfl⟩
  sched _ _ _ := ⟨rfl, rfl, rfl, rfl, rfl⟩
  rest _ _ _ _ _ _ _ := ⟨rfl, rfl, rfl, rfl, rfl⟩

/-- The supply monitor: only its own events change it. -/
theorem supply_frame : PlantFrame fun a b => b.supply = a.supply where
  refl _ := rfl
  trans h k := k.trans h
  unit _ _ _ _ _ := rfl
  demands _ _ _ _ _ := rfl
  sched _ _ := rfl
  rest _ _ _ _ _ _ := rfl

/-- What the sequencers and the scheduler leave alone: the mode, the test record, the supply, the free choices made,
and of every channel all but its record and its CMD. -/
def Plant.SequencersOnly (a b : Plant) : Prop :=
  b.mode = a.mode ∧ b.test = a.test ∧ b.supply = a.supply ∧ b.joinReports = a.joinReports ∧ b.draws = a.draws ∧
    ∀ p, b.chan p = { a.chan p with unit := (b.chan p).unit, cmd := (b.chan p).cmd }

/-- The sequencers and the scheduler keep to their own. -/
theorem sequencersOnly_frame : SeqFrame Plant.SequencersOnly where
  refl _ := ⟨rfl, rfl, rfl, rfl, rfl, fun _ => rfl⟩
  trans h k :=
    ⟨k.1.trans h.1, k.2.1.trans h.2.1, k.2.2.1.trans h.2.2.1, k.2.2.2.1.trans h.2.2.2.1,
      k.2.2.2.2.1.trans h.2.2.2.2.1, fun p => by rw [k.2.2.2.2.2 p, h.2.2.2.2.2 p]⟩
  unit pl p u b _ := by
    refine ⟨rfl, rfl, rfl, rfl, rfl, fun q => ?_⟩
    rw [Plant.chan_setChan]; split
    · rename_i e; subst e; rfl
    · rfl
  sched _ _ := ⟨rfl, rfl, rfl, rfl, rfl, fun _ => rfl⟩

end Sys2Proof.Machine
end

