-- ==== Sys2Proof/Laws/Ports.lean ====
section
/-! SUPPORT. The ports: what marking does to a change set, what an event leaves of the ports, what a byte written or
read does, and the one lemma that carries an order from its four strobes to the decoder's answer. -/

namespace Sys2Proof.Machine

/-! ## Change sets (R145) -/

/-- A number is in a change set after additions exactly if it was before or was added. -/
theorem addMembers_getElem {n : Nat} (ms : List (Fin n)) (v : Vector Bool n) (i : Fin n) :
    (addMembers ms v)[i] = (v[i] || ms.contains i) := by
  induction ms generalizing v with
  | nil => simp [addMembers]
  | cons m ms ih =>
    have h : addMembers (m :: ms) v = addMembers ms (v.set m true) := rfl
    rw [h, ih]
    by_cases e : i = m
    · subst e; simp
    · have e' : m.val ≠ i.val := fun x => e (Fin.ext x.symm)
      simp [e', e]

@[simp] theorem addMembers_nil {n : Nat} (v : Vector Bool n) : addMembers [] v = v := rfl

/-- Marking nothing changes nothing. -/
@[simp] theorem Ports.markAll_nil (ps : Ports) : ps.markAll [] [] = ps := rfl

theorem PortRec.marked_refl (r : PortRec) : r.Marked r := ⟨rfl, fun _ h => h, fun _ h => h⟩

/-- Markings add up. -/
theorem PortRec.Marked.trans {a b c : PortRec} (h : a.Marked b) (k : b.Marked c) : a.Marked c := by
  refine ⟨?_, fun p x => k.2.1 p (h.2.1 p x), fun z x => k.2.2 z (h.2.2 z x)⟩
  rw [k.1, h.1]

/-- Marking is a marking. -/
theorem PortRec.markAll_marked (ps : List Point) (zs : List Zone) (r : PortRec) : r.Marked (r.markAll ps zs) := by
  refine ⟨rfl, fun p h => ?_, fun z h => ?_⟩
  · show (addMembers ps r.points)[p] = true
    rw [addMembers_getElem, h, Bool.true_or]
  · show (addMembers zs r.zones)[z] = true
    rw [addMembers_getElem, h, Bool.true_or]

theorem Ports.get_markAll (ps : List Point) (zs : List Zone) (r : Ports) (i : PortId) :
    (r.markAll ps zs).get i = (r.get i).markAll ps zs := by cases i <;> rfl

/-- An event of the plant marks the ports and does nothing else to them. -/
theorem State.runEvent_portsMarked (g : Env → Ev → Ev) (s : State) : s.PortsMarked (s.runEvent g) := by
  intro i
  show (s.ports.get i).Marked ((s.runEvent g).ports.get i)
  rw [State.runEvent_ports, Ports.get_markAll]
  exact PortRec.markAll_marked _ _ _

/-- An event of the plant leaves everything outside the plant and the ports as it was. -/
theorem State.runEvent_outsidePlant (g : Env → Ev → Ev) (s : State) : s.OutsidePlant (s.runEvent g) :=
  ⟨rfl, rfl, rfl, rfl, rfl, rfl, rfl, rfl⟩

/-- A point that the event marks is in every port's change set afterwards. -/
theorem State.runEvent_pointMarked (g : Env → Ev → Ev) (s : State) (p : Point)
    (h : p ∈ (finishEvent s.env (g s.env (.start s.plant))).marks) : (s.runEvent g).PointMarked p := by
  intro i
  show (((s.runEvent g).ports.get i).points)[p] = true
  rw [State.runEvent_ports, Ports.get_markAll]
  show (addMembers _ (s.ports.get i).points)[p] = true
  rw [addMembers_getElem]
  simp [h]

/-- The end of an event at the zones changes the ports by markings at most. -/
theorem zonesFollow_portsMarked (s t : State) : t.PortsMarked (zonesFollow s t) := by
  intro i
  have h : (t.port i).Marked ((t.ports.markAll [] (changedZones s t)).get i) := by
    rw [Ports.get_markAll]; exact PortRec.markAll_marked _ _ _
  unfold zonesFollow
  split
  · exact h
  · exact h.trans (State.runEvent_portsMarked listReport { t with ports := t.ports.markAll [] (changedZones s t) } i)

/-- A zone that the event changes is in every port's change set afterwards (R18). -/
theorem zonesFollow_zoneMarked (s t : State) (z : Zone) (h : zoneChanged s t z = true) :
    (zonesFollow s t).ZoneMarked z := by
  intro i
  have hz : z ∈ changedZones s t := by simp [changedZones, allZones, h]
  have h1 : ((t.ports.markAll [] (changedZones s t)).get i).zones[z] = true := by
    rw [Ports.get_markAll]
    show (addMembers _ _)[z] = true
    rw [addMembers_getElem]; simp [hz]
  unfold zonesFollow
  split
  · exact h1
  · exact (State.runEvent_portsMarked listReport
      { t with ports := t.ports.markAll [] (changedZones s t) } i).2.2 z h1

/-! ## Strobes (R139, R141, R143) -/

/-- What a byte written does: OVERRUN at a FULL slot, else the byte is stored and a complete order is taken if the
port is free. -/
theorem writeByte_eq (i : PortId) (x : Byte) (s : State) :
    writeByte i x s =
      if (s.port i).inSlots[(s.port i).wptr].isSome then s.setPort i { s.port i with overrun := true }
      else
        takeIfReady i
          (s.setPort i
            { s.port i with
              inSlots := (s.port i).inSlots.set (s.port i).wptr (some x)
              wptr := (s.port i).wptr + 1 }) := by
  cases h : (s.port i).inSlots[(s.port i).wptr] <;> simp only [writeByte, h] <;> rfl

/-- A byte that finds an EMPTY slot at the write pointer is stored. -/
theorem writeByte_stored {i : PortId} {s : State} {r : PortRec} (x : Byte) (hr : s.port i = r)
    (h : r.inSlots[r.wptr] = none) :
    writeByte i x s =
      takeIfReady i (s.setPort i { r with inSlots := r.inSlots.set r.wptr (some x), wptr := r.wptr + 1 }) := by
  subst hr
  simp only [writeByte, h]

/-- What a byte read does: UNDERRUN at an EMPTY slot, else the slot is emptied and a complete order that waits is
taken if the port is now free. -/
theorem readByte_eq (i : PortId) (s : State) :
    readByte i s =
      match (s.port i).outSlots[(s.port i).rptr] with
      | none => s.setPort i { s.port i with underrun := true }
      | some x =>
        takeIfReady i
          (s.setPort i
            { s.port i with
              outSlots := (s.port i).outSlots.set (s.port i).rptr none
              rptr := (s.port i).rptr + 1
              lastDriven := x }) := rfl

/-- An order is taken exactly when one is complete and the port is free. -/
theorem takeIfReady_of_incomplete {i : PortId} {s : State} (h : (s.port i).completeOrder = none) :
    takeIfReady i s = s := by simp [takeIfReady, h]

theorem takeIfReady_of_busy {i : PortId} {s : State} (h : (s.port i).free = false) : takeIfReady i s = s := by
  unfold takeIfReady; split <;> simp [h]

theorem takeIfReady_of_free {i : PortId} {s : State} {o : Order} (h : (s.port i).completeOrder = some o)
    (k : (s.port i).free = true) : takeIfReady i s = takeOrder i o s := by simp [takeIfReady, h, k]

/-- The port record of an order in progress at a port that was at rest. -/
theorem PortRec.atRest_eq {r : PortRec} (h1 : r.inSlots = Vector.replicate 4 none) (h2 : r.wptr = 0) (o : Order) :
    { r with inSlots := Vector.replicate 4 none, wptr := 0, inProgress := some o } = { r with inProgress := some o } := by
  cases r; simp_all

/-- AN ORDER AT A PORT AT REST. Its four strobes leave what the decoder answers of the machine with the order in
progress; a reply, if there is one, stands in the port's output slots. Every statement about an order's command
begins here. -/
theorem deliverOrder_atRest {i : PortId} {s : State} (o : Order) (h : s.PortAtRest i) :
    deliverOrder i o s =
      match decodeOrder i o (s.setPort i { s.port i with inProgress := some o }) with
      | (t, some y) => t.setPort i { (t.port i).withReply y.code y.r1 y.r2 y.r3 with inProgress := none }
      | (t, none) => t := by
  obtain ⟨-, h1, h2, h3, h4⟩ := h
  rcases hr : s.port i with ⟨a, w, pr, out, rp, ld, ov, un, sh, rs, ps, zs⟩
  rw [hr] at h1 h2 h3 h4
  simp only at h1 h2 h3 h4
  subst h1 h2 h3 h4
  have e1 : writeByte i o.code s = s.setPort i ⟨#v[some o.code, none, none, none], 1, none, Vector.replicate 4 none,
      rp, ld, ov, un, sh, rs, ps, zs⟩ := by
    rw [writeByte_stored _ hr rfl]; exact takeIfReady_of_incomplete (by rw [State.port_setPort_self]; rfl)
  have e2 : writeByte i o.b1 (s.setPort i ⟨#v[some o.code, none, none, none], 1, none, Vector.replicate 4 none,
      rp, ld, ov, un, sh, rs, ps, zs⟩) = s.setPort i ⟨#v[some o.code, some o.b1, none, none], 2, none,
      Vector.replicate 4 none, rp, ld, ov, un, sh, rs, ps, zs⟩ := by
    rw [writeByte_stored _ (State.port_setPort_self ..) rfl, State.setPort_setPort]
    exact takeIfReady_of_incomplete (by rw [State.port_setPort_self]; rfl)
  have e3 : writeByte i o.b2 (s.setPort i ⟨#v[some o.code, some o.b1, none, none], 2, none, Vector.replicate 4 none,
      rp, ld, ov, un, sh, rs, ps, zs⟩) = s.setPort i ⟨#v[some o.code, some o.b1, some o.b2, none], 3, none,
      Vector.replicate 4 none, rp, ld, ov, un, sh, rs, ps, zs⟩ := by
    rw [writeByte_stored _ (State.port_setPort_self ..) rfl, State.setPort_setPort]
    exact takeIfReady_of_incomplete (by rw [State.port_setPort_self]; rfl)
  have e4 : writeByte i o.b3 (s.setPort i ⟨#v[some o.code, some o.b1, some o.b2, none], 3, none,
      Vector.replicate 4 none, rp, ld, ov, un, sh, rs, ps, zs⟩) = takeOrder i o (s.setPort i
      ⟨#v[some o.code, some o.b1, some o.b2, some o.b3], 0, none, Vector.replicate 4 none, rp, ld, ov, un, sh, rs, ps,
      zs⟩) := by
    rw [writeByte_stored _ (State.port_setPort_self ..) rfl, State.setPort_setPort]
    exact takeIfReady_of_free (by rw [State.port_setPort_self]; rfl) (by rw [State.port_setPort_self]; rfl)
  unfold deliverOrder
  rw [e1, e2, e3, e4]
  unfold takeOrder
  rw [State.port_setPort_self, State.setPort_setPort]
  rfl

/-- An order that the decoder answers with a refusal or a result and no change leaves its reply and nothing else. -/
theorem deliverOrder_reply {i : PortId} {s : State} {o : Order} {y : Reply} (h : s.PortAtRest i)
    (hd : decodeOrder i o (s.setPort i { s.port i with inProgress := some o }) =
      (s.setPort i { s.port i with inProgress := some o }, some y)) :
    deliverOrder i o s = s.withReply i y.code y.r1 y.r2 y.r3 := by
  rw [deliverOrder_atRest o h, hd]
  simp only [State.port_setPort_self, State.setPort_setPort, State.withReply]
  congr 1
  obtain ⟨-, -, -, h3, -⟩ := h
  rcases hr : s.port i with ⟨a, w, pr, out, rp, ld, ov, un, sh, rs, ps, zs⟩
  rw [hr] at h3
  simp only at h3
  subst h3
  rfl

/-- Every number of a point is read back as that point. -/
@[simp] theorem pointOf_byte (p : Point) : pointOf (byte p.val) = some p := by
  have h : (byte p.val).toNat = p.val := by simp [byte]; omega
  simp [pointOf, h]

/-- Every number of a zone is read back as that zone. -/
@[simp] theorem zoneOf_byte (z : Zone) : zoneOf (byte z.val) = some z := by
  have h : (byte z.val).toNat = z.val := by simp [byte]; omega
  simp [zoneOf, h]

/-- Every override value is read back from its code. -/
@[simp] theorem overrideOf_byte (v : Override) : overrideOf (byte v.code) = some v := by cases v <;> rfl

/-- Every order's code names it (Table 8-2). -/
@[simp] theorem orderKind_code (k : OrderKind) : orderKind k.code = some k := by cases k <;> rfl

/-- An order of Table 8-2 that its port may carry goes to its own definition. -/
theorem decodeOrder_allowed {i : PortId} {k : OrderKind} (b1 b2 b3 : Byte) (s : State)
    (h : portAllowed k i = true) :
    decodeOrder i { code := k.code, b1 := b1, b2 := b2, b3 := b3 } s =
      runOrder k i { code := k.code, b1 := b1, b2 := b2, b3 := b3 } s := by
  simp [decodeOrder, h]

/-- An order command outside device reset is its delivery at the port. -/
theorem exec_orderCommand {s : State} (k : OrderKind) (i : PortId) (b1 b2 b3 : Byte) (h : s.held = false) :
    exec (orderCommand k i b1 b2 b3) s =
      .next (deliverOrder i { code := k.code, b1 := b1, b2 := b2, b3 := b3 } s) := by
  cases k <;> exact congrArg Host.Outcome.next (by simp [State.unlessHeld, h])

end Sys2Proof.Machine
end

