-- ==== Sys2Proof/Laws/Sequencers.lean ====
section
/-! SUPPORT. What the shared operations of the two sequencers and the scheduler write: the record put, and every other
record that stays. -/

namespace Sys2Proof.Machine

/-! ## Timers and filters -/

@[simp] theorem Timer.load_zero : Timer.load 0 = .idle := rfl
theorem Timer.load_pos {n : Nat} (h : 0 < n) : Timer.load n = .running n 0 := by
  simp [Timer.load, Nat.pos_iff_ne_zero.mp h]
@[simp] theorem Timer.isRunning_idle : Timer.isRunning .idle = false := rfl
@[simp] theorem Timer.isRunning_running (n k : Nat) : Timer.isRunning (.running n k) = true := rfl
@[simp] theorem Timer.isRunning_tick (t : Timer) : t.tick.isRunning = t.isRunning := by
  cases t with
  | idle => rfl
  | running n k => simp only [Timer.tick]; split <;> rfl
@[simp] theorem Filter.expire_eq (raw : Level) (f : Filter) : f.expire raw = { filtered := raw, timer := .idle } := rfl

/-- A raw change: cancelled, taken at once, or held in the timer (R2, R53). -/
theorem Filter.rawChange_eq (n : Nat) (raw : Level) (f : Filter) :
    f.rawChange n raw =
      { filtered := if raw ≠ f.filtered ∧ n = 0 then raw else f.filtered
        timer := if raw ≠ f.filtered ∧ n ≠ 0 then .running n 0 else .idle } := by
  unfold Filter.rawChange
  split
  · rename_i h; simp [h]
  · rename_i h
    split
    · rename_i k; simp [h, k, Filter.settled]
    · rename_i k; simp [h, k, Timer.load]

/-! ## Folds over all numbers -/

/-- Setting every element of a vector in turn maps it. -/
theorem foldl_set_getElem {α : Type} {n : Nat} (g : Fin n → α → α) (v : Vector α n) (i : Fin n) :
    ((List.finRange n).foldl (fun v (j : Fin n) => v.set j (g j v[j])) v)[i] = g i v[i] := by
  have key : ∀ (l : List (Fin n)) (v : Vector α n), l.Nodup →
      (l.foldl (fun v (j : Fin n) => v.set j (g j v[j])) v)[i] = if i ∈ l then g i v[i] else v[i] := by
    intro l
    induction l with
    | nil => intro v _; simp
    | cons j l ih =>
      intro v hn
      rw [List.foldl_cons, ih _ (List.nodup_cons.mp hn).2]
      by_cases e : i = j
      · subst e
        simp [(List.nodup_cons.mp hn).1]
      · have e' : j.val ≠ i.val := fun x => e (Fin.ext x.symm)
        simp [e, e']
  rw [key _ v (List.nodup_finRange n)]
  simp

/-! ## The free order -/

theorem insertByRank_perm {α : Type} (x : Nat × α) (l : List (Nat × α)) : (insertByRank x l).Perm (x :: l) := by
  induction l with
  | nil => exact .refl _
  | cons y ys ih =>
    unfold insertByRank
    split
    · exact .refl _
    · exact ((List.perm_cons y).mpr ih).trans (.swap x y ys)

theorem ranked_map {α : Type} (n i : Nat) (l : List α) : (ranked n i l).map Prod.snd = l := by
  induction l generalizing i with
  | nil => rfl
  | cons x xs ih => simp [ranked, ih]

/-- A free order holds the same things, each as often. -/
theorem inFreeOrder_perm {α : Type} (n : Nat) (l : List α) : (inFreeOrder n l).Perm l := by
  have h : ∀ m : List (Nat × α), (m.foldr insertByRank []).Perm m := by
    intro m
    induction m with
    | nil => exact .refl _
    | cons x xs ih => exact (insertByRank_perm x _).trans ((List.perm_cons x).mpr ih)
  simpa [inFreeOrder, ranked_map] using (h (ranked n 0 l)).map Prod.snd

/-! ## Writing a damper record -/

/-- The plant after a damper record is written: that record and its CMD, and nothing else. -/
theorem putDamper_plant (env : Env) (p : Point) (d : Damper) (ev : Ev) :
    (putDamper env p d ev).plant =
      if (ev.plant.damper? p).isSome then
        ev.plant.setChan p { ev.plant.chan p with unit := .damper d, cmd := damperCmd (env.store.point p) d }
      else ev.plant := by
  unfold putDamper
  split <;> rename_i h
  · simp [h]
  · dsimp only
    split <;> simp [h]

theorem putDamper_fan? (env : Env) (p q : Point) (d : Damper) (ev : Ev) :
    (putDamper env p d ev).plant.fan? q = ev.plant.fan? q := by
  rw [putDamper_plant]
  split
  · rename_i h
    obtain ⟨o, ho⟩ := Option.isSome_iff_exists.mp h
    rw [Plant.fan?_setChan]
    split
    · rename_i e; subst e
      simp [Plant.fan?, Channel.fan?, Plant.damper?_eq_some.mp ho]
    · rfl
  · rfl

theorem putDamper_damper?_ne (env : Env) {p q : Point} (d : Damper) (ev : Ev) (h : q ≠ p) :
    (putDamper env p d ev).plant.damper? q = ev.plant.damper? q := by
  rw [putDamper_plant]; split
  · rw [Plant.damper?_setChan, if_neg h]
  · rfl

theorem putDamper_damper?_self (env : Env) {p : Point} (d : Damper) {ev : Ev} {o : Damper}
    (h : ev.plant.damper? p = some o) : (putDamper env p d ev).plant.damper? p = some d := by
  rw [putDamper_plant, h]; simp [Plant.damper?, Channel.damper?]

theorem putDamper_sched (env : Env) (p : Point) (d : Damper) (ev : Ev) :
    (putDamper env p d ev).plant.sched = ev.plant.sched := by rw [putDamper_plant]; split <;> rfl

theorem putDamper_mode (env : Env) (p : Point) (d : Damper) (ev : Ev) :
    (putDamper env p d ev).plant.mode = ev.plant.mode := by rw [putDamper_plant]; split <;> rfl

theorem putDamper_test (env : Env) (p : Point) (d : Damper) (ev : Ev) :
    (putDamper env p d ev).plant.test = ev.plant.test := by rw [putDamper_plant]; split <;> rfl

/-! ## The close wait's release (R68) -/

theorem releaseOne_fan? (env : Env) (ev : Ev) (p q : Point) :
    (releaseOne env ev p).plant.fan? q = ev.plant.fan? q := by
  unfold releaseOne
  split
  · rfl
  · split
    · exact putDamper_fan? ..
    · rfl

/-- A release changes no damper that is not in WAITFAN. -/
theorem releaseOne_damper? (env : Env) (ev : Ev) (p q : Point) (d : Damper) (h : ev.plant.damper? q = some d)
    (k : d.pos ≠ .waitFan) : (releaseOne env ev p).plant.damper? q = some d := by
  unfold releaseOne
  split
  · exact h
  · rename_i o ho
    split
    · rename_i w
      by_cases e : q = p
      · subst e; rw [h] at ho; cases ho; exact absurd w.1 k
      · rw [putDamper_damper?_ne _ _ _ e, h]
    · exact h

theorem releaseWaiting_fan? (env : Env) (ev : Ev) (q : Point) :
    (releaseWaiting env ev).plant.fan? q = ev.plant.fan? q := by
  unfold releaseWaiting
  induction allPoints generalizing ev with
  | nil => rfl
  | cons p ps ih => rw [List.foldl_cons, ih, releaseOne_fan?]

theorem releaseWaiting_damper? (env : Env) (ev : Ev) (q : Point) (d : Damper) (h : ev.plant.damper? q = some d)
    (k : d.pos ≠ .waitFan) : (releaseWaiting env ev).plant.damper? q = some d := by
  unfold releaseWaiting
  induction allPoints generalizing ev with
  | nil => exact h
  | cons p ps ih => rw [List.foldl_cons]; exact ih _ (releaseOne_damper? env ev p q d h k)

theorem releaseOne_sched (env : Env) (ev : Ev) (p : Point) : (releaseOne env ev p).plant.sched = ev.plant.sched := by
  unfold releaseOne
  split
  · rfl
  · split
    · exact putDamper_sched ..
    · rfl

theorem releaseWaiting_sched (env : Env) (ev : Ev) : (releaseWaiting env ev).plant.sched = ev.plant.sched := by
  unfold releaseWaiting
  induction allPoints generalizing ev with
  | nil => rfl
  | cons p ps ih => rw [List.foldl_cons, ih, releaseOne_sched]

/-! ## Writing a fan record -/

theorem testPendingLimit_chan (ev : Ev) (q : Point) : ev.testPendingLimit.plant.chan q = ev.plant.chan q := by
  unfold Ev.testPendingLimit
  split
  · rfl
  · split <;> rfl

theorem unitsReturned_chan (n : Nat) (ev : Ev) (q : Point) : (ev.unitsReturned n).plant.chan q = ev.plant.chan q :=
  testPendingLimit_chan _ q

theorem noteJoining_plant (p : Point) (ev : Ev) : (ev.noteJoining p).plant = ev.plant := by
  unfold Ev.noteJoining; split <;> rfl

/-- The scheduler's side of a fan's change touches no channel. -/
theorem schedulerFollows_chan (env : Env) (p : Point) (o f : Fan) (ev : Ev) (q : Point) :
    (schedulerFollows env p o f ev).plant.chan q = ev.plant.chan q := by
  unfold schedulerFollows
  dsimp only [Ev.evaluateIf_plant]
  by_cases hs : o.state = .starting ∧ f.state ≠ .starting
  · rw [if_pos hs, unitsReturned_chan]
    split
    · rw [noteJoining_plant]; rfl
    · split <;> rfl
  · rw [if_neg hs]
    split
    · rw [noteJoining_plant]; rfl
    · split <;> rfl

theorem releaseIf_fan? (env : Env) (b : Bool) (ev : Ev) (q : Point) :
    (if b then releaseWaiting env ev else ev).plant.fan? q = ev.plant.fan? q := by
  cases b
  · rfl
  · exact releaseWaiting_fan? env ev q

/-- The fan records after one is written: that record in its normal form, and every other as it was. -/
theorem putFan_fan? (env : Env) (p q : Point) (f : Fan) (ev : Ev) :
    (putFan env p f ev).plant.fan? q =
      if q = p ∧ (ev.plant.fan? p).isSome then some (f.norm (env.store.point p)) else ev.plant.fan? q := by
  unfold putFan
  cases h : ev.plant.fan? p with
  | none => simp
  | some o =>
    dsimp only
    rw [releaseIf_fan?]
    split <;> simp only [Ev.report_plant, Plant.fan?, schedulerFollows_chan, Ev.markIf_plant, Ev.setChan_plant,
      Plant.chan_setChan, Option.isSome_some, and_true] <;> split <;> rfl

theorem putFan_fan?_self (env : Env) {p : Point} (f : Fan) {ev : Ev} {o : Fan} (h : ev.plant.fan? p = some o) :
    (putFan env p f ev).plant.fan? p = some (f.norm (env.store.point p)) := by simp [putFan_fan?, h]

theorem putFan_fan?_ne (env : Env) {p q : Point} (f : Fan) (ev : Ev) (h : q ≠ p) :
    (putFan env p f ev).plant.fan? q = ev.plant.fan? q := by simp [putFan_fan?, h]

/-- A fan's change leaves every damper that is not in WAITFAN. -/
theorem putFan_damper? (env : Env) (p q : Point) (f : Fan) (ev : Ev) (d : Damper) (h : ev.plant.damper? q = some d)
    (k : d.pos ≠ .waitFan) : (putFan env p f ev).plant.damper? q = some d := by
  unfold putFan
  split
  · exact h
  · rename_i o ho
    dsimp only
    have hne : q ≠ p := by
      rintro rfl
      rw [Plant.damper?_eq_some] at h; rw [Plant.fan?_eq_some, h] at ho; cases ho
    have step : ∀ x : Ev, x.plant.damper? q = some d →
        (if o.state.turning && !(f.norm (env.store.point p)).state.turning then releaseWaiting env x
          else x).plant.damper? q = some d := by
      intro x hx
      split
      · exact releaseWaiting_damper? env x q d hx k
      · exact hx
    apply step
    split <;> simpa only [Ev.report_plant, Plant.damper?, schedulerFollows_chan, Ev.markIf_plant, Ev.setChan_plant,
      Plant.chan_setChan, if_neg hne] using h

/-- What `norm` leaves of a fan's record. -/
@[simp] theorem Fan.norm_state (c : PointCfg) (f : Fan) : (f.norm c).state = f.state := rfl
@[simp] theorem Fan.norm_held (c : PointCfg) (f : Fan) : (f.norm c).held = f.held := rfl
@[simp] theorem Fan.norm_runDown (c : PointCfg) (f : Fan) : (f.norm c).runDown = f.runDown := rfl
@[simp] theorem Fan.norm_proofLimit (c : PointCfg) (f : Fan) : (f.norm c).proofLimit = f.proofLimit := rfl
@[simp] theorem Fan.norm_fbbFilt (c : PointCfg) (f : Fan) : (f.norm c).fbbFilt = f.fbbFilt := rfl
@[simp] theorem Fan.norm_proof (c : PointCfg) (f : Fan) : (f.norm c).proof = f.proof := rfl
@[simp] theorem Fan.norm_speed (c : PointCfg) (f : Fan) : (f.norm c).speed = f.speed := rfl
theorem Fan.norm_wait (c : PointCfg) (f : Fan) : (f.norm c).wait = if f.state = .queued then f.wait else none := rfl
theorem Fan.norm_fault (c : PointCfg) (f : Fan) :
    (f.norm c).fault = if f.state = .fault then f.fault else .none := rfl
theorem Fan.norm_driveAlarm (c : PointCfg) (f : Fan) :
    (f.norm c).driveAlarm = (driveFaultIndicated c f.fbbFilt.filtered && !f.state.energised) := rfl

/-! ## The alarm list -/

theorem inList_iff (z : Zone) (l : List AlarmEntry) : inList z l = true ↔ z ∈ l.map AlarmEntry.zone := by
  simp only [inList, List.any_eq_true, beq_iff_eq, List.mem_map]

theorem latchEntry_zones (z : Zone) (l : List AlarmEntry) :
    (latchEntry z l).map AlarmEntry.zone = l.map AlarmEntry.zone := by
  simp only [latchEntry, List.map_map]
  exact List.map_congr_left fun e _ => by simp only [Function.comp]; split <;> rfl

/-- The zones of the list after a line arrival: the zone joins at the end if it is absent. -/
theorem lineArrival_zones (m : ZoneMode) (z : Zone) (l : List AlarmEntry) :
    (lineArrival m z l).map AlarmEntry.zone =
      if z ∈ l.map AlarmEntry.zone then l.map AlarmEntry.zone else l.map AlarmEntry.zone ++ [z] := by
  unfold lineArrival
  by_cases h : z ∈ l.map AlarmEntry.zone
  · rw [if_pos ((inList_iff z l).mpr h), if_pos h]
    split
    · exact latchEntry_zones z l
    · rfl
  · rw [if_neg (fun x => h ((inList_iff z l).mp x)), if_neg h]
    simp

/-- The zones of the list after a port arrival. -/
theorem portArrival_zones (z : Zone) (l : List AlarmEntry) :
    (portArrival z l).map AlarmEntry.zone =
      if z ∈ l.map AlarmEntry.zone then l.map AlarmEntry.zone else l.map AlarmEntry.zone ++ [z] := by
  unfold portArrival
  by_cases h : z ∈ l.map AlarmEntry.zone
  · rw [if_pos ((inList_iff z l).mpr h), if_pos h]
    exact latchEntry_zones z l
  · rw [if_neg (fun x => h ((inList_iff z l).mp x)), if_neg h]
    simp

/-- A line clear and a removal leave a part of the list, in its order. -/
theorem lineClear_sublist (z : Zone) (l : List AlarmEntry) : (lineClear z l).Sublist l := List.filter_sublist
theorem removeZone_sublist (z : Zone) (l : List AlarmEntry) : (removeZone z l).Sublist l := List.filter_sublist

end Sys2Proof.Machine
end

