-- ==== Sys2Proof/Laws/TimeBase.lean ====
section
/-! SUPPORT. What the machine does on an empty queue, said once: one of three things (`State.idleStep_cases`). -/

namespace Sys2Proof.Machine

/-- What an empty queue brings: nothing, while device reset is held or while CLKIN has stopped with nothing due; ONE of
the commands due, put into the queue; or one count of the time base. -/
theorem State.idleStep_cases (s : State) :
    (s.idleStep = s ∧ (s.held = true ∨ (dueCommands s = [] ∧ s.clkin = false))) ∨
      (∃ c ∈ dueCommands s, s.held = false ∧
        s.idleStep = { s with pending := [c], plant := { s.plant with draws := s.plant.draws + 1 } }) ∨
      (dueCommands s = [] ∧ s.held = false ∧ s.clkin = true ∧ s.idleStep = s.countPasses) := by
  have hp : (inFreeOrder s.plant.draws (dueCommands s)).Perm (dueCommands s) := inFreeOrder_perm _ _
  unfold State.idleStep
  by_cases hh : s.held = true
  · exact .inl ⟨by simp [hh], .inl hh⟩
  · rw [if_neg hh]
    simp only [Bool.not_eq_true] at hh
    split
    · rename_i c cs h
      exact .inr (.inl ⟨c, hp.subset (h ▸ List.mem_cons_self), hh, rfl⟩)
    · rename_i h
      have hd : dueCommands s = [] := by rw [h] at hp; exact hp.symm.eq_nil
      cases hc : s.clkin
      · exact .inl ⟨by simp, .inr ⟨hd, rfl⟩⟩
      · exact .inr (.inr ⟨hd, hh, rfl, by simp⟩)

/-- While device reset is held the empty queue brings nothing (R151). -/
theorem State.idleStep_held (s : State) (h : s.held = true) : s.idleStep = s := by simp [State.idleStep, h]

/-- What a count leaves as it was. -/
@[simp] theorem State.countPasses_held (s : State) : s.countPasses.held = s.held := by rw [State.countPasses]
@[simp] theorem State.countPasses_clkin (s : State) : s.countPasses.clkin = s.clkin := by rw [State.countPasses]
@[simp] theorem State.countPasses_alarms (s : State) : s.countPasses.alarms = s.alarms := by rw [State.countPasses]
@[simp] theorem State.countPasses_store (s : State) : s.countPasses.store = s.store := by rw [State.countPasses]
@[simp] theorem State.countPasses_ports (s : State) : s.countPasses.ports = s.ports := by rw [State.countPasses]
@[simp] theorem State.countPasses_pending (s : State) : s.countPasses.pending = s.pending := by rw [State.countPasses]
@[simp] theorem State.countPasses_mode (s : State) : s.countPasses.plant.mode = s.plant.mode := by
  rw [State.countPasses, Plant.tick]
@[simp] theorem State.countPasses_test (s : State) : s.countPasses.plant.test = s.plant.test := by
  rw [State.countPasses, Plant.tick]

end Sys2Proof.Machine
end

