-- ==== Sys2Proof/WellFormed.lean ====
section
/-! DEFINITION. Which commands are well formed. The types of the operands rule out every number that names no
point, zone or port; what remains is that UNKNOWN_ORDER_CODE carries a code that Table 8-2 does not define. -/

namespace Sys2Proof

/-- A command is well formed unless it calls a code of Table 8-2 unknown (R152). -/
def Instr.wellFormed : Instr → Bool
  | .unknownOrderCode _ code _ _ _ => (orderKind code).isNone
  | _ => true

end Sys2Proof
end

