-- ==== Sys2Proof/Tests/Slice0.lean ====
section
/-! SUPPORT. Tests. First the smoke test of WellFormed and a few codes of the manual's tables; then small tests of one
command each, with results taken from the manual's rules, tables and worked examples; then, for every obligation with
hypotheses, a state and operands that meet them, clause by clause. -/

open Sys2Proof Sys2Proof.Machine

namespace Sys2Proof.Tests

set_option Elab.async false -- one theorem at a time: many at once outgrow the memory limit

/-! ## Well-formed commands, and codes -/

theorem test_wellFormed_refuses_listed_code :
    (Instr.unknownOrderCode .a 0x10#8 0#8 0#8 0#8).wellFormed = false := by decide

theorem test_wellFormed_accepts :
    (Instr.unknownOrderCode .a 0x15#8 0#8 0#8 0#8).wellFormed = true ∧ Instr.deviceReset.wellFormed = true := by decide

theorem test_orderKind_ends :
    orderKind 0x10#8 = some .qsys ∧ orderKind 0x5B#8 = some .rdcf ∧ orderKind 0x45#8 = some .cmlv ∧
      orderKind 0x15#8 = none ∧ orderKind 0x54#8 = none := by decide

theorem test_no_word_spells_a_command : decodeTableWord 32 0x10 = none := by decide

theorem test_action_byte :
    actionOf 0#8 = some none ∧ actionOf 3#8 = some (some .stop) ∧ actionOf 4#8 = none ∧ actionOf 9#8 = none ∧
      actionOf 10#8 = some (some (.run 0)) ∧ actionOf 110#8 = some (some (.run 100)) ∧ actionOf 111#8 = none := by decide

theorem test_point_field_ranges :
    (PointCfg.delivery.setField 5 2).isSome = true ∧ PointCfg.delivery.setField 5 3 = none ∧
      (PointCfg.delivery.setField 6 64).isSome = true ∧ PointCfg.delivery.setField 6 65 = none ∧
      PointCfg.delivery.setField 10 0 = none ∧ (PointCfg.delivery.setField 11 0).isSome = true ∧
      PointCfg.delivery.setField 12 4 = none ∧ PointCfg.delivery.setField 22 0 = none := by decide

/-! ## States for the tests -/

/-- A state with a point's stored record, sequencer record and CMD in place. -/
def withUnit (p : Point) (c : PointCfg) (u : Equipment) (s : State) : State :=
  { s with
    store := { s.store with points := s.store.points.set p c }
    plant := s.plant.setChan p
      { s.plant.chan p with
        unit := u
        cmd := match u with
          | .unused => false
          | .damper d => damperCmd c d
          | .fan f => f.state.energised } }

/-- A state with a point's channel changed. -/
def withChan (p : Point) (g : Channel → Channel) (s : State) : State :=
  { s with plant := s.plant.setChan p (g (s.plant.chan p)) }

/-- A state with the plant changed. -/
def withPlant (g : Plant → Plant) (s : State) : State := { s with plant := g s.plant }

/-- A state in a mode. -/
def inMode (m : Mode) (s : State) : State := withPlant (fun pl => { pl with mode := m }) s

/-- A damper record with its limits inactive. -/
def damperAt (pos : DamperPos) (held : Option DamperEnd) : Damper where
  pos := pos
  held := held.map fun e => { target := e, source := .normal }
  fault := .none
  stroke := .idle
  timed := false
  fbaFilt := .settled .high
  fbbFilt := .settled .high

/-- A fan record at rest but for its state and held demand. -/
def fanAt (state : FanState) (want : Option FanWant) : Fan where
  state := state
  fault := .none
  held := want.map fun w => { want := w, source := .normal }
  wait := none
  runDown := .idle
  proofLimit := .idle
  driveAlarm := false
  fbbFilt := .settled .high
  proof := .afterReset
  speed := .atRest

def damperCfg : PointCfg := { PointCfg.delivery with kind := .damper }
def fanCfg : PointCfg := { PointCfg.delivery with kind := .fan }

/-- A damper at point 0. -/
def oneDamper (c : PointCfg) (d : Damper) : State := withUnit 0 c (.damper d) .reset

/-- A fan at point 1. -/
def oneFan (c : PointCfg) (f : Fan) : State := withUnit 1 c (.fan f) .reset

/-- A fan at point 1 that waits in the queue. -/
def queuedFan (f : Fan) : State :=
  withPlant (fun pl => { pl with sched := { pl.sched with queue := [1], spacing := .running 1 0 } }) (oneFan fanCfg f)

/-- A zone's entry in the alarm list. -/
def entry (z : Zone) (latched : Bool) : AlarmEntry := { zone := z, origin := .line, latched := latched }

/-- Zone 3 in alarm, in FIRE, with its line at rest again and its filter about to take that. -/
def clearing : State :=
  inMode .fire
    { State.reset.setZone 3 { raw := .high, filter := { filtered := .low, timer := .running 2 0 }, isolated := false } with
      alarms := [entry 3 false] }

/-- An isolated zone 3. -/
def isolatedZone : State :=
  State.reset.setZone 3 { raw := .high, filter := .settled .high, isolated := true }

/-- What a command leaves. -/
def after (c : Instr) (s : State) : State :=
  match exec c s with
  | .next t => t
  | _ => s

/-- The bytes of the reply that stands at a port. -/
def reply (t : State) (i : PortId) : List (Option Byte) := (t.port i).outSlots.toList

/-! ## Commands at the lines and timers -/

theorem test_zoneRawLevelChange :
    (after (.zoneRawLevelChange 3 .low) .reset).zone 3 =
      { raw := .low, filter := { filtered := .high, timer := .running 2 0 }, isolated := false } := by decide

theorem test_zoneFilterTimerRunsOut_clears :
    (after (.zoneFilterTimerRunsOut 3) clearing).alarms = [] ∧
      (after (.zoneFilterTimerRunsOut 3) clearing).plant.mode = .normal := by decide

theorem test_limitRawLevelChange :
    ((after (.limitRawLevelChange 0 .fba .low) (oneDamper damperCfg (damperAt .opening (some .openEnd)))).plant.damper?
      0).map Damper.fbaFilt = some { filtered := .high, timer := .running 2 0 } := by decide

theorem test_limitFilterTimerRunsOut_proves_open :
    ((after (.limitFilterTimerRunsOut 0 .fba)
        (withChan 0 (fun ch => { ch with fba := .low })
          (oneDamper damperCfg
            { damperAt .opening (some .openEnd) with
              stroke := .running 9 0, fbaFilt := { filtered := .high, timer := .running 1 0 } }))).plant.damper?
      0).map (fun d => (d.pos, d.stroke)) = some (.opened, .idle) := by decide

theorem test_strokeTimerRunsOut_faults :
    ((after (.strokeTimerRunsOut 0)
        (oneDamper damperCfg { damperAt .opening (some .openEnd) with stroke := .running 1 0 })).plant.damper? 0).map
      (fun d => (d.pos, d.fault)) = some (.opening, .stroke) := by decide

theorem test_fbaRisingEdge_saturates :
    ((after (.fbaRisingEdge 1)
        (oneFan fanCfg { fanAt .running none with proof := { RunProof.afterReset with count := 4095 } })).plant.fan?
      1).map (fun f => f.proof.count) = some 4095 := by decide

/-- The manual's worked window: S 100, R 1440, P 1, G 16 give E 48, with nTOL 20 the band 38 to 58. -/
theorem test_expected_count :
    expectedCount fanCfg 100 = 48 ∧ bandLow fanCfg 48 = 38 ∧ bandHigh fanCfg 48 = 58 := by decide

theorem test_gateTimerRunsOut_proves :
    ((after (.gateTimerRunsOut 1)
        (oneFan { fanCfg with nK := 1 }
          { fanAt .starting (some (.run 100)) with
            proofLimit := .running 9 0
            proof := { RunProof.afterReset with gate := .running 1 0, count := 38, expected := 48, low := 38, high := 58 }
            })).plant.fan? 1).map (fun f => (f.state, f.proofLimit, f.proof.lastCount)) =
      some (.running, .idle, 38) := by decide

theorem test_proofLimitTimerRunsOut :
    ((after (.proofLimitTimerRunsOut 1)
        (oneFan fanCfg { fanAt .starting (some (.run 100)) with proofLimit := .running 1 0 })).plant.fan? 1).map
      (fun f => (f.state, f.fault)) = some (.fault, .failStart) := by decide +kernel

theorem test_runDownTimerRunsOut :
    ((after (.runDownTimerRunsOut 1)
        (oneFan fanCfg { fanAt .runDown (some .stop) with runDown := .running 1 0 })).plant.fan? 1).map Fan.state =
      some .idle := by decide +kernel

theorem test_periodBoundary_applies :
    ((after (.periodBoundary 1)
        (oneFan fanCfg
          { fanAt .running (some (.run 50)) with speed := { applied := 100, pending := some 50, phase := 199 } })).plant.fan?
      1).map (fun f => (f.speed, f.proof.expected)) = some ({ applied := 50, pending := none, phase := 0 }, 24) := by decide

theorem test_fbbRawLevelChange_unread :
    ((after (.fbbRawLevelChange 1 .low) (oneFan fanCfg (fanAt .idle none))).plant.fan? 1) =
      some (fanAt .idle none) := by decide

theorem test_fbbFilterTimerRunsOut_faults :
    ((after (.fbbFilterTimerRunsOut 1)
        (withChan 1 (fun ch => { ch with fbb := .low })
          (oneFan { fanCfg with driveContact := .closesOnFault }
            { fanAt .running (some (.run 100)) with
              fbbFilt := { filtered := .high, timer := .running 1 0 } }))).plant.fan? 1).map
      (fun f => (f.state, f.fault, f.driveAlarm)) = some (.fault, .drive, true) := by decide +kernel

theorem test_spacingTimerRunsOut_starts :
    ((after .spacingTimerRunsOut (queuedFan (fanAt .queued (some (.run 60))))).plant.fan? 1).map
      (fun f => (f.state, f.speed.applied, f.wait)) = some (.starting, 60, none) := by decide

theorem test_supfailRawLevelChange :
    (after (.supfailRawLevelChange .low) .reset).plant.supply.filter.timer = .running 2 0 := by decide

theorem test_supfailFilterTimerRunsOut_fails :
    (after (.supfailFilterTimerRunsOut)
      (withPlant (fun pl =>
        { pl with supply := { pl.supply with raw := .low, filter := { filtered := .high, timer := .running 1 0 } } })
        .reset)).plant.supply.state = .failed := by decide +kernel

theorem test_settleTimerRunsOut :
    (after .settleTimerRunsOut
      (withPlant (fun pl => { pl with supply := { pl.supply with state := .settling, settle := .running 1 0 } })
        .reset)).plant.supply.state = .good := by decide

theorem test_joiningReport_path :
    (after .joiningReport
      (withPlant (fun pl =>
        { pl with
          mode := .test
          joinReports := [{ point := 1, reason := some .path }]
          test := { TestRecord.afterReset with
            state := .running, first := 1, count := 1, current := some 1, step := some .fanStart
            home := some .stop } })
        (oneFan fanCfg (fanAt .queued (some (.run 100)))))).plant.test.results =
      [{ point := 1, outcome := .failPath }] := by decide

/-! ## Commands at the ports -/

theorem test_wrStrobeEnd_overrun :
    ((after (.wrStrobeEnd .f true 7#8)
      (State.reset.setPort .f { State.reset.port .f with inSlots := #v[some 1#8, none, none, none] })).port .f).overrun =
      true := by decide

theorem test_selInactive_short :
    ((after (.selInactive .f)
      (State.reset.setPort .f { State.reset.port .f with inSlots := #v[some 1#8, none, none, none], wptr := 1 })).port
      .f).short = true := by decide

theorem test_rdStrobe_underrun : ((after (.rdStrobe .b true) .reset).port .b).underrun = true := by decide

theorem test_deviceReset_fills_zone_sets :
    (after .deviceReset .reset).atn .a = true ∧ (after .deviceReset .reset).plant.mode = .normal := by decide

theorem test_deviceResetHeld_rests :
    (after .deviceResetHeld (oneFan fanCfg (fanAt .running (some (.run 100))))).cmd 1 = false ∧
      (after .deviceResetHeld clearing).alarms = [] := by decide

/-- The RESET flag stands in the first reply (Table 8-1). -/
theorem test_unknownOrderCode :
    reply (after (.unknownOrderCode .a 0x15#8 1#8 2#8 3#8) .reset) .a =
      [some 0x81#8, some 1#8, some 2#8, some 3#8] := by decide

theorem test_qsys : reply (after (.qsys .a 0#8 0#8 0#8) clearing) .a =
    [some 0x80#8, some 0x01#8, some 1#8, some 3#8] := by decide

theorem test_qalm : reply (after (.qalm .a 0#8 0#8 0#8) clearing) .a =
    [some 0x80#8, some 3#8, some 0#8, some 1#8] := by decide

theorem test_qzon : reply (after (.qzon .a 3#8 0#8 0#8) clearing) .a =
    [some 0x80#8, some 0x03#8, some 0#8, some 0#8] := by decide

theorem test_qpnt : reply (after (.qpnt .f 1#8 0#8 0#8) (oneFan fanCfg (fanAt .lost none))) .f =
    [some 0x80#8, some 0x01#8, some 4#8, some 0#8] := by decide

theorem test_nxch : reply (after (.nxch .b 1#8 0#8 0#8) .reset) .b =
    [some 0x80#8, some 1#8, some 0#8, some 31#8] := by decide

theorem test_zalm : (after (.zalm .a 5#8 0#8 0#8) .reset).alarms =
    [{ zone := 5, origin := .port, latched := true }] := by decide

theorem test_arst : (after (.arst .a 0#8 0#8 0#8) { clearing with alarms := [entry 4 true, entry 3 false] }).alarms =
    [entry 3 true] := by decide

/-- R9, R16, R18: zone 0 leaves the list and is appended again at position 0, now with origin LINE; it is marked. -/
theorem test_arst_marks_removed :
    let z : ZoneLine := { raw := .low, filter := .settled .low, isolated := false }
    let s := { State.reset.setZone 0 z with alarms := [{ zone := 0, origin := .port, latched := true }] }
    let t := after (.arst .a 0#8 0#8 0#8) (s.setPort .f { s.port .f with zones := Vector.replicate 32 false })
    t.alarms = [entry 0 true] ∧ (t.port .f).zones[(0 : Zone)] = true ∧ (t.port .f).zones[(1 : Zone)] = false := by decide

theorem test_ziso : ((after (.ziso .a 3#8 0#8 0#8) clearing).alarms, (after (.ziso .a 3#8 0#8 0#8) clearing).plant.mode) =
    ([], .normal) := by decide

theorem test_zrin : ((after (.zrin .a 3#8 0#8 0#8) isolatedZone).zone 3).isolated = false := by decide

theorem test_ovrd_on :
    ((after (.ovrd .f 1#8 1#8 0#8) (oneFan { fanCfg with nOVS := 70 } (fanAt .idle none))).plant.chan 1).resolved =
      some { action := .run 70, source := .override, fireZone := none } := by decide

theorem test_oval :
    ((after (.oval .f 0#8 0#8 0#8)
      (withChan 1 (fun ch => { ch with override := .on }) (oneFan fanCfg (fanAt .idle none)))).plant.chan 1).override =
      .auto := by decide

theorem test_fzon : (after (.fzon .f 7#8 0#8 0#8) clearing).alarms =
    [{ zone := 7, origin := .firefighter, latched := true }, entry 3 false] := by decide

theorem test_eqrs :
    ((after (.eqrs .b 0#8 0#8 0#8)
      (oneDamper damperCfg { damperAt .opening (some .openEnd) with fault := .stroke })).plant.damper? 0).map
      (fun d => (d.fault, d.stroke)) = some (.none, .running 240 0) := by decide

theorem test_ndem :
    ((after (.ndem .b 0#8 1#8 0#8) (oneDamper damperCfg (damperAt .closed (some .closedEnd)))).plant.damper? 0).map
      Damper.pos = some .opening := by decide

theorem test_ptst_empty_range : (after (.ptst .b 60#8 4#8 0#8) .reset).plant.test.state = .done := by decide

theorem test_pthl_refused : reply (after (.pthl .b 1#8 2#8 3#8) .reset) .b =
    [some 0x86#8, some 1#8, some 2#8, some 3#8] := by decide

theorem test_ptrd_beyond : reply (after (.ptrd .b 0#8 0#8 0#8) .reset) .b =
    [some 0x80#8, some 0xFF#8, some 0xFF#8, some 0#8] := by decide

theorem test_cmen : (after (.cmen .b 0#8 0#8 0#8) .reset).plant.mode = .commission := by decide

theorem test_cmlv : (after (.cmlv .b 0#8 0#8 0#8) (inMode .commission .reset)).plant.mode = .normal := by decide

theorem test_wpcf_accepted : ((after (.wpcf .b 0#8 10#8 45#8) (inMode .commission .reset)).write).map StoreWrite.cycles =
    some 48000 := by decide

theorem test_wzcf_refused : reply (after (.wzcf .b 0#8 2#8 16#8) (inMode .commission .reset)) .b =
    [some 0x83#8, some 0#8, some 2#8, some 16#8] := by decide

theorem test_wscn_none : ((after (.wscn .b 0#8 0#8 0#8) (inMode .commission .reset)).write).map StoreWrite.target =
    some (.scenario 0 0 none) := by decide

theorem test_wdcf_mode : reply (after (.wdcf .b 0#8 20#8 0#8) .reset) .b =
    [some 0x84#8, some 0#8, some 20#8, some 0#8] := by decide

theorem test_storeWriteCompletes :
    (after .storeWriteCompletes (after (.wdcf .b 0#8 30#8 0#8) (inMode .commission .reset))).plant.sched.limit =
      30 := by decide

theorem test_rpcf : reply (after (.rpcf .b 5#8 16#8 0#8) .reset) .b =
    [some 0x80#8, some 5#8, some 16#8, some 72#8] := by decide

theorem test_rzcf : reply (after (.rzcf .b 5#8 2#8 0#8) .reset) .b = [some 0x80#8, some 5#8, some 2#8, some 2#8] := by
  decide

theorem test_rscn : reply (after (.rscn .b 5#8 6#8 9#8) .reset) .b = [some 0x80#8, some 5#8, some 6#8, some 0#8] := by
  decide

theorem test_rdcf : reply (after (.rdcf .b 3#8 9#8 9#8) .reset) .b = [some 0x80#8, some 3#8, some 0#8, some 2#8] := by
  decide

/-! ## Witnesses: states and operands that meet the hypotheses of the obligations, clause by clause -/

/-- A check of every fan record of a plant. -/
theorem forall_fan {pl : Plant} {P : Point → Fan → Prop} [∀ p f, Decidable (P p f)]
    (h : (allPoints.all fun p =>
      match pl.fan? p with
      | some f => decide (P p f)
      | none => true) = true) (p : Point) (f : Fan) (hf : pl.fan? p = some f) : P p f := by
  have := List.all_eq_true.mp h p (List.mem_finRange p)
  rw [hf] at this
  simpa using this

/-- A check of every damper record of a plant. -/
theorem forall_damper {pl : Plant} {P : Point → Damper → Prop} [∀ p d, Decidable (P p d)]
    (h : (allPoints.all fun p =>
      match pl.damper? p with
      | some d => decide (P p d)
      | none => true) = true) (p : Point) (d : Damper) (hd : pl.damper? p = some d) : P p d := by
  have := List.all_eq_true.mp h p (List.mem_finRange p)
  rw [hd] at this
  simpa using this

/-! ## The time base: of several commands due together, what is taken first may withdraw another -/

/-- A RUNNING fan whose gate timer has run out in the count in which its period has ended, with a pending speed. -/
def bothDue : State :=
  { oneFan fanCfg
      { fanAt .running (some (.run 50)) with
        proof := { RunProof.afterReset with gate := .running 0 0 }
        speed := { applied := 100, pending := some 50, phase := 199 } } with
    periodEnds := [1] }

/-- R100: either may be taken first; once the speed change is, the running-out does not occur; once the running-out is,
the boundary is still to come. -/
theorem test_boundary_withdraws_gate :
    dueCommands bothDue = [.gateTimerRunsOut 1, .periodBoundary 1] ∧
      dueCommands (after (.periodBoundary 1) bothDue) = [] ∧
      dueCommands (after (.gateTimerRunsOut 1) bothDue) = [.periodBoundary 1] := by decide +kernel

/-- R60, R61: an OPEN demand taken first loads the stroke timer again, and the running-out of the stroke before it does
not occur. -/
theorem test_demand_withdraws_stroke :
    let s := oneDamper { damperCfg with feedback := .timed }
      { damperAt .closing (some .closedEnd) with stroke := .running 0 0 }
    dueCommands s = [.strokeTimerRunsOut 0] ∧
      dueCommands (after (.ovrd .f 0#8 1#8 0#8) s) = [] ∧
      ((after (.ovrd .f 0#8 1#8 0#8) s).plant.damper? 0).map Damper.pos = some .opening := by decide +kernel

/-- R150: with CLKIN stopped no count passes. -/
theorem test_clkin_stopped :
    ({ State.reset with clkin := false }).idleStep = { State.reset with clkin := false } := by decide +kernel

/-- R129: a fan that queues on its normal RUN as its step ends brings no joining report. -/
theorem test_no_report_after_the_step :
    let s := withChan 1 (fun ch => { ch with normal := .run 50, testDemand := some .stop })
      (withPlant (fun pl =>
        { pl with
          mode := .test
          test := { TestRecord.afterReset with
            state := .running, first := 1, count := 1, current := some 1, step := some .fanStop, home := some .stop } })
        (oneFan fanCfg { fanAt .runDown (some .stop) with runDown := .running 1 0 }))
    let t := after (.runDownTimerRunsOut 1) s
    t.plant.joinReports = [] ∧ t.plant.test.results = [{ point := 1, outcome := .pass }] ∧
      (t.plant.fan? 1).map Fan.state = some .starting := by decide +kernel

/-- A demand of the fire plan for zone 3. -/
def fireOf (a : Action) : Demand := { action := a, source := .fire, fireZone := some 3 }

/-- A machine at work: zone 3 in alarm; damper 0 OPEN on the path of fan 1, which RUNS; fan 2 QUEUED for damper 3,
which is CLOSING; the spacing timer about to run out. -/
def busy : State :=
  { withChan 0 (fun ch => { ch with resolved := some (fireOf .toOpen) })
      (withChan 1 (fun ch => { ch with resolved := some (fireOf (.run 100)) })
        (withChan 2 (fun ch => { ch with resolved := some (fireOf (.run 100)) })
          (withChan 3 (fun ch => { ch with resolved := some (fireOf .toClose) })
            (withUnit 0 damperCfg
              (.damper { damperAt .opened (some .openEnd) with fbaFilt := .settled .low })
              (withUnit 1 { fanCfg with path0 := some 0 }
                (.fan
                  { fanAt .running (some (.run 100)) with
                    proof := { RunProof.afterReset with gate := .running 9 0, expected := 48, low := 38, high := 58 }
                    speed := { applied := 100, pending := none, phase := 0 } })
                (withUnit 2 { fanCfg with path0 := some 3 }
                  (.fan { fanAt .queued (some (.run 100)) with wait := some .path })
                  (withUnit 3 damperCfg
                    (.damper { damperAt .closing (some .closedEnd) with stroke := .running 40 0 })
                    (inMode .fire
                      (State.reset.setZone 3 { raw := .low, filter := .settled .low, isolated := false }))))))))) with
    alarms := [entry 3 true]
    pending := [.spacingTimerRunsOut] } |> withPlant fun pl =>
    { pl with sched := { pl.sched with queue := [2], spacing := .running 0 0 } }

/-- A machine in the middle of a proof test of points 0 to 3, at point 2, with point 0 passed. -/
def testing : State :=
  withPlant (fun pl =>
    { pl with
      mode := .test
      test := { TestRecord.afterReset with
        state := .running, first := 0, count := 4, current := some 2, step := some .fanStart, home := some .stop
        results := [{ point := 0, outcome := .pass }] } })
    (oneFan fanCfg (fanAt .idle none))

/-- Nothing is due right after reset, whether or not CLKIN runs. -/
theorem reset_not_due (clkin : Bool) (c : Instr) : ¬({ State.reset with clkin := clkin }).Due c := by
  have hd : ∀ p : Point, State.reset.plant.damper? p = none := by decide +kernel
  have hf : ∀ p : Point, State.reset.plant.fan? p = none := by decide +kernel
  have hz : ∀ z : Zone, (State.reset.zone z).filter.timer = .idle := by decide +kernel
  intro h
  cases c with
  | zoneFilterTimerRunsOut z =>
    have h : (State.reset.zone z).filter.timer.isOut = true := h
    rw [hz] at h; exact Bool.false_ne_true h
  | limitFilterTimerRunsOut p i => obtain ⟨x, hx, -⟩ := h; exact nomatch (hd p).symm.trans hx
  | strokeTimerRunsOut p => obtain ⟨x, hx, -⟩ := h; exact nomatch (hd p).symm.trans hx
  | gateTimerRunsOut p => obtain ⟨x, hx, -⟩ := h; exact nomatch (hf p).symm.trans hx
  | proofLimitTimerRunsOut p => obtain ⟨x, hx, -⟩ := h; exact nomatch (hf p).symm.trans hx
  | runDownTimerRunsOut p => obtain ⟨x, hx, -⟩ := h; exact nomatch (hf p).symm.trans hx
  | fbbFilterTimerRunsOut p => obtain ⟨x, hx, -⟩ := h; exact nomatch (hf p).symm.trans hx
  | periodBoundary p => obtain ⟨-, x, hx, -⟩ := h; exact nomatch (hf p).symm.trans hx
  | spacingTimerRunsOut => exact Bool.false_ne_true h
  | supfailFilterTimerRunsOut => exact Bool.false_ne_true h
  | settleTimerRunsOut => exact Bool.false_ne_true h
  | storeWriteCompletes => obtain ⟨w, hw, -⟩ := h; exact nomatch hw
  | joiningReport => exact h rfl
  | _ => exact h

theorem witness_TimerRunsOutExactly :
    (0 < 1 ∧ 25000 ≤ 1 * 25000) ∧
      (bothDue.held = false ∧ bothDue.pending = [] ∧ bothDue.Due (.gateTimerRunsOut 1)) ∧
      ∀ clkin : Bool, ({ State.reset with clkin := clkin }).held = false ∧
        ({ State.reset with clkin := clkin }).pending = [] ∧ ∀ c, ¬({ State.reset with clkin := clkin }).Due c :=
  have h : (bothDue.plant.fan? 1).map (fun f => f.proof.gate.isOut) = some true := by decide +kernel
  ⟨by decide, ⟨rfl, rfl, Option.map_eq_some_iff.mp h⟩, fun clkin => ⟨rfl, rfl, reset_not_due clkin⟩⟩

theorem witness_RawChangesFilter :
    let noFilter : State :=
      { State.reset with
        store :=
          { State.reset.store with
            zones := Vector.replicate 32 { ZoneCfg.delivery with tZF := 0 }
            device := { DeviceCfg.delivery with tFBF := 0 } } }
    let lowLines : State :=
      withPlant (fun pl => { pl with supply := { pl.supply with raw := .low } })
        (State.reset.setZone 31 { raw := .low, filter := .settled .high, isolated := false })
    (State.reset.held = false ∧ (State.reset.zone 31).raw ≠ .low ∧ (State.reset.zone 31).filter.filtered ≠ .low ∧
      0 < (State.reset.store.zone 31).tZF) ∧
    (noFilter.held = false ∧ (noFilter.zone 31).raw ≠ .low ∧ (noFilter.zone 31).filter.filtered ≠ .low ∧
      (noFilter.store.zone 31).tZF = 0) ∧
    (lowLines.held = false ∧ (lowLines.zone 31).raw ≠ .high ∧ (lowLines.zone 31).filter.filtered = .high) ∧
    (State.reset.plant.supply.raw ≠ .low ∧ State.reset.plant.supply.filter.filtered ≠ .low ∧
      0 < State.reset.store.device.tFBF) ∧
    (noFilter.plant.supply.raw ≠ .low ∧ noFilter.plant.supply.filter.filtered ≠ .low ∧
      noFilter.store.device.tFBF = 0) ∧
    (lowLines.plant.supply.raw ≠ .high ∧ lowLines.plant.supply.filter.filtered = .high) := by decide

theorem witness_ZoneFilterRunsOut :
    let isolated := clearing.setZone 3 { clearing.zone 3 with isolated := true }
    (clearing.held = false ∧ (clearing.zone 3).filter.timer.isRunning = true ∧
      (clearing.zone 3).raw ≠ (clearing.zone 3).filter.filtered) ∧
    (isolated.held = false ∧ (isolated.zone 3).filter.timer.isRunning = true ∧
      (isolated.zone 3).raw ≠ (isolated.zone 3).filter.filtered ∧ (isolated.zone 3).isolated = true) := by decide

theorem witness_LineEventsAtTheList :
    let l := [entry 4 true, entry 3 false]
    (5 : Zone) ∉ l.map AlarmEntry.zone ∧ (3 : Zone) ∈ l.map AlarmEntry.zone ∧ l[1]? = some (entry 3 false) ∧
      (l.map AlarmEntry.zone).Nodup ∧ (entry 4 true ∈ l ∧ (entry 4 true).zone = 4 ∧ (entry 4 true).latched = true) ∧
      (l = [entry 4 true] ++ entry 3 false :: [] ∧ (entry 3 false).zone = 3 ∧ (entry 3 false).latched = false) := by
  decide

theorem witness_ZalmRaisesAlarm :
    (isolatedZone.PortAtRest .a ∧ (isolatedZone.zone 3).isolated = true) ∧
      (State.reset.PortAtRest .a ∧ (State.reset.zone 31).isolated = false ∧ State.reset.ModeSound) := by decide

theorem witness_FzonLeads :
    let s : State := { clearing with alarms := [entry 4 true, entry 3 false] }
    (isolatedZone.PortAtRest .f ∧ (isolatedZone.zone 3).isolated = true) ∧
      (s.PortAtRest .f ∧ (s.zone 3).isolated = false ∧ (s.alarms.map AlarmEntry.zone).Nodup ∧
        (31 : Zone) ∉ s.alarms.map AlarmEntry.zone ∧ s.alarms = [entry 4 true] ++ entry 3 false :: [] ∧
        (entry 3 false).zone = 3) := by decide

theorem witness_ArstTwoSteps : clearing.PortAtRest .a := by decide

theorem witness_IsolationAndReturn :
    (isolatedZone.PortAtRest .a ∧ (isolatedZone.zone 3).isolated = true) ∧
      (clearing.PortAtRest .a ∧ (clearing.zone 3).isolated = false) := by decide

theorem witness_AlarmListStaysSound : busy.ListSound ∧ step busy = .next (after .spacingTimerRunsOut
    { busy with pending := [] }) := ⟨by decide, rfl⟩

theorem witness_MergeAndReadAcross :
    let row : Vector (Option Action) 64 := (Vector.replicate 64 none).set 63 (some .toOpen)
    let st : Store := { Store.delivery with scenario := Store.delivery.scenario.set 3 row }
    let l := [entry 4 true, entry 3 false]
    (l = [entry 4 true] ++ entry 3 false :: [] ∧ (∀ y ∈ [entry 4 true], st.entry y.zone 63 = none) ∧
      st.entry (entry 3 false).zone 63 = some .toOpen) ∧
    (∀ y ∈ l, st.entry y.zone 62 = none) ∧
    ({ fanCfg with nMIN := 50 }.nMIN ≤ 50 ∧ fanCfg.kind = .fan ∧ damperCfg.kind = .damper) := by decide

theorem witness_OvrdSetsOverride :
    let s := oneFan fanCfg (fanAt .idle none)
    s.PortAtRest .f ∧ (s.store.point 63).kind = .unused ∧
      ((s.store.point 1).kind ≠ .unused ∧ (s.plant.chan 1).override = .auto) ∧
      ((s.store.point 1).kind ≠ .unused ∧ (s.plant.chan 1).override ≠ .on) := by decide

theorem witness_OvalReleasesAll :
    let s := withChan 1 (fun ch => { ch with override := .on }) (oneFan fanCfg (fanAt .idle none))
    s.PortAtRest .f ∧ (s.plant.chan 1).override ≠ .auto ∧ s.store.kind 1 ≠ .unused := by decide

theorem witness_NdemStoresEntry :
    let s := oneFan fanCfg (fanAt .idle none)
    actionOf 110#8 = some (some (.run 100)) ∧
      ((inMode .commission s).PortAtRest .b ∧ (inMode .commission s).plant.mode = .commission) ∧
      (s.PortAtRest .b ∧ s.plant.mode = .normal ∧ s.NoTest ∧ s.store.kind 1 ≠ .unused ∧
        (s.plant.chan 1).override = .auto ∧ (s.plant.chan 1).normal ≠ .run 100) ∧
      ((inMode .restore s).PortAtRest .b ∧ (inMode .restore s).plant.mode = .restore) := by decide

theorem witness_ModeStaysSound : busy.ModeSound ∧ testing.ModeSound := by decide

theorem witness_OverridesStaySound : busy.KindsSound ∧ busy.OverridesSound := by decide +kernel

theorem witness_CommissionEntered :
    State.reset.PortAtRest .b ∧ (State.reset.plant.mode = .normal ∧ State.reset.NoTest) ∧
      (inMode .commission .reset).PortAtRest .b ∧
      ((inMode .commission .reset).plant.mode = .commission ∧ (inMode .commission .reset).NoTest) ∧
      (inMode .commission .reset).plant.mode ≠ .normal ∧ State.reset.plant.mode ≠ .commission := by decide

theorem witness_RestoreCycle_arrival :
    clearing.held = false ∧ clearing.PortAtRest .a ∧ clearing.ModeSound ∧ (clearing.zone 31).isolated = false ∧
      (31 : Zone) ∉ clearing.alarms.map AlarmEntry.zone := by decide

theorem witness_RestoreCycle_clear :
    let s := withUnit 1 fanCfg (.fan { fanAt .runDown none with runDown := .running 1 0 }) clearing
    let e := entry 3 false
    s.held = false ∧ s.plant.mode = .fire ∧ s.NoTest ∧ s.alarms = [e] ∧ e.latched = false ∧
      (s.zone e.zone).isolated = false ∧ (s.zone e.zone).filter.timer.isRunning = true ∧
      (s.zone e.zone).raw ≠ (s.zone e.zone).filter.filtered ∧ s.active e.zone = true ∧
      s.plant.fan? 1 = some { fanAt .runDown none with runDown := .running 1 0 } ∧
      FanState.turning .runDown = true ∧ 0 < (s.store.point 1).tRD := by decide

theorem witness_RestoreCycle_end :
    let f := { fanAt .runDown (some .stop) with runDown := .running 1 0 }
    let s := inMode .restore (oneFan fanCfg f)
    (s.held = false ∧ s.plant.mode = .restore ∧ s.NoTest ∧ s.plant.fan? 1 = some f ∧ f.state = .runDown ∧
      f.runDown.isRunning = true ∧ f.wantsRun = false) ∧
      ∀ (q : Point) (g : Fan), s.plant.fan? q = some g → q ≠ 1 → g.state = .idle ∨ g.state = .fault :=
  ⟨by decide, forall_fan (by decide)⟩

theorem witness_FeedbackChangesFilter :
    let s := oneDamper damperCfg (damperAt .opened (some .openEnd))
    let timed := oneDamper { damperCfg with feedback := .timed } (damperAt .opened (some .openEnd))
    let unfiltered : State :=
      { s with store := { s.store with device := { s.store.device with tFBF := 0 } } }
    let moved := withChan 0 (fun ch => { ch with fba := .low }) s
    (s.held = false ∧ s.CmdSound ∧ (s.plant.chan 63).line .fbb ≠ .low ∧ (s.plant.chan 63).unit = .unused) ∧
    (timed.held = false ∧ timed.CmdSound ∧ (timed.plant.chan 0).line .fba ≠ .low ∧
      (timed.store.point 0).readsLimit .fba = false) ∧
    ((s.plant.chan 0).line .fba ≠ .low ∧ (s.store.point 0).readsLimit .fba = true ∧ 0 < s.store.device.tFBF ∧
      (s.plant.chan 0).unit = .damper (damperAt .opened (some .openEnd)) ∧
      ((damperAt .opened (some .openEnd)).filt .fba).filtered ≠ .low) ∧
    (unfiltered.CmdSound ∧ (unfiltered.store.point 0).readsLimit .fba = true ∧ unfiltered.store.device.tFBF = 0) ∧
    (moved.CmdSound ∧ (moved.plant.chan 0).line .fba ≠ .high ∧
      ((damperAt .opened (some .openEnd)).filt .fba).filtered = .high) := by decide +kernel

theorem witness_FeedbackChangesFilter_contact :
    let read := oneFan { fanCfg with driveContact := .closesOnFault } (fanAt .idle none)
    let unread := oneFan fanCfg (fanAt .idle none)
    let back := withChan 1 (fun ch => { ch with fbb := .low }) read
    (read.held = false ∧ read.CmdSound ∧ (read.plant.chan 1).unit = .fan (fanAt .idle none) ∧
      (read.plant.chan 1).fbb ≠ .low ∧ (read.store.point 1).driveContact ≠ .none ∧
      (fanAt .idle none).fbbFilt.filtered ≠ .low ∧ 0 < read.store.device.tFBF) ∧ read.FansSound ∧
    (unread.held = false ∧ unread.CmdSound ∧ (unread.plant.chan 1).fbb ≠ .low ∧
      (unread.store.point 1).driveContact = .none) ∧ unread.FansSound ∧
    (back.held = false ∧ back.CmdSound ∧ (back.plant.chan 1).fbb ≠ .high ∧
      (fanAt .idle none).fbbFilt.filtered = .high) ∧ back.FansSound :=
  ⟨by decide +kernel, fun _ => forall_fan (by decide +kernel), by decide +kernel,
    fun _ => forall_fan (by decide +kernel), by decide +kernel, fun _ => forall_fan (by decide +kernel)⟩

theorem witness_FeedbackChangesFilter_contact_unfiltered :
    let read := oneFan { fanCfg with driveContact := .opensOnFault } (fanAt .idle none)
    let s : State := { read with store := { read.store with device := { read.store.device with tFBF := 0 } } }
    let f := { fanAt .idle none with fbbFilt := .settled .low }
    let s' := withUnit 1 { fanCfg with driveContact := .opensOnFault } (.fan f) (withChan 1 (fun ch => { ch with fbb := .low }) s)
    (s'.held = false ∧ s'.CmdSound ∧ (s'.plant.chan 1).unit = .fan f ∧ (s'.plant.chan 1).fbb ≠ .high ∧
      (s'.store.point 1).driveContact ≠ .none ∧ f.fbbFilt.filtered ≠ .high ∧ s'.store.device.tFBF = 0) ∧
      s'.FansSound :=
  ⟨by decide +kernel, fun _ => forall_fan (by decide +kernel)⟩

/-- Damper 0 OPEN on the path of fan 1, which runs, with its open limit about to release. -/
def releasing : State :=
  withUnit 1 { fanCfg with path0 := some 0 } (.fan (fanAt .running (some (.run 100))))
    (oneDamper damperCfg
      { damperAt .opened (some .openEnd) with fbaFilt := { filtered := .low, timer := .running 1 0 } })

theorem witness_LimitFilterRunsOut :
    let d := { damperAt .opened (some .openEnd) with fbaFilt := { filtered := .low, timer := .running 1 0 } }
    let x := (d.setFilt .fba { filtered := .high, timer := .idle }).limitEvent damperCfg .fba
    releasing.held = false ∧ releasing.NoTest ∧ releasing.plant.mode ≠ .restore ∧ releasing.QueueSound ∧
      releasing.plant.damper? 0 = some d ∧ (d.filt .fba).timer.isRunning = true ∧
      (releasing.plant.chan 0).line .fba ≠ (d.filt .fba).filtered ∧ d.pos = .opened ∧ x.pos ≠ .opened ∧
      x.fault ≠ d.fault ∧ 1 ∈ releasing.store.pathFans 0 ∧
      releasing.plant.fan? 1 = some (fanAt .running (some (.run 100))) ∧ FanState.energised .running = true ∧
      (fanAt .running (some (.run 100))).underOverride = false ∧ 0 < (releasing.store.point 1).tRD := by
  decide +kernel

theorem witness_LimitFilterRunsOut_stays :
    let d := { damperAt .opening (some .openEnd) with fbaFilt := { filtered := .high, timer := .running 1 0 } }
    let s := withChan 0 (fun ch => { ch with fba := .low })
      (withUnit 1 fanCfg (.fan (fanAt .idle none)) (withUnit 3 damperCfg (.damper (damperAt .closed (some .closedEnd)))
        (oneDamper damperCfg d)))
    s.held = false ∧ s.NoTest ∧ s.plant.mode ≠ .restore ∧ s.QueueSound ∧ s.plant.damper? 0 = some d ∧
      (d.filt .fba).timer.isRunning = true ∧ (s.plant.chan 0).line .fba ≠ (d.filt .fba).filtered ∧
      d.pos ≠ .opened ∧ s.plant.fan? 1 = some (fanAt .idle none) ∧
      s.plant.damper? 3 = some (damperAt .closed (some .closedEnd)) := by
  decide +kernel

theorem witness_LimitEventsOfTwoLimits :
    let low (d : Damper) : Damper := { d with fbaFilt := .settled .low }
    let both (d : Damper) : Damper := { low d with fbbFilt := .settled .low }
    let c (x : Feedback) : PointCfg := { damperCfg with feedback := x }
    (0 < damperCfg.tSTK ∧ (c .twoLimit).feedback = .twoLimit ∧ (c .openLimit).feedback = .openLimit ∧
        (c .timed).feedback = .timed) ∧
      ((both (damperAt .unproven none)).fbaFilt.filtered = .low ∧
        (both (damperAt .unproven none)).fbbFilt.filtered = .low ∧ (both (damperAt .unproven none)).pos ≠ .waitFan ∧
        (both (damperAt .waitFan (some .closedEnd))).pos = .waitFan) ∧
      ((low (damperAt .opening (some .openEnd))).pos = .opening ∧
        (low (damperAt .opening (some .openEnd))).fbbFilt.filtered = .high) ∧
      ((damperAt .closing (some .closedEnd)).pos = .closing ∧
        (damperAt .closing (some .closedEnd)).fbaFilt.filtered = .high ∧
        (damperAt .closing (some .closedEnd)).stroke = .idle) ∧
      ((damperAt .opened (some .openEnd)).pos = .opened ∧
        (damperAt .opened (some .openEnd)).held.map DamperHeld.target = some .openEnd) ∧
      ((low (damperAt .closed (some .closedEnd))).pos = .closed ∧
        (damperAt .closed (some .closedEnd)).held.map DamperHeld.target = some .closedEnd) ∧
      (damperAt .unproven (some .openEnd)).pos = .unproven ∧
      (damperAt .unproven (some .openEnd)).held.map DamperHeld.target = some .openEnd := by decide

theorem witness_StrokeTimerRunsOut :
    let d (pos : DamperPos) (e : DamperEnd) : Damper := { damperAt pos (some e) with stroke := .running 1 0 }
    let s (fb : Feedback) (pos : DamperPos) (e : DamperEnd) : State := oneDamper { damperCfg with feedback := fb } (d pos e)
    ((s .timed .opening .openEnd).held = false ∧ (s .timed .opening .openEnd).NoTest ∧
      (s .timed .opening .openEnd).CmdSound ∧
      (s .timed .opening .openEnd).plant.damper? 0 = some (d .opening .openEnd) ∧
      ((s .timed .opening .openEnd).store.point 0).feedback = .timed ∧ (d .opening .openEnd).stroke.isRunning = true) ∧
    ((s .openLimit .closing .closedEnd).CmdSound ∧
      (s .openLimit .closing .closedEnd).plant.damper? 0 = some (d .closing .closedEnd) ∧
      (d .closing .closedEnd).fbaFilt.filtered = .high ∧
      ((s .openLimit .closing .closedEnd).store.point 0).feedback = .openLimit) ∧
    ((s .twoLimit .unproven .openEnd).CmdSound ∧
      (s .twoLimit .unproven .openEnd).plant.damper? 0 = some (d .unproven .openEnd) ∧
      ((s .twoLimit .unproven .openEnd).store.point 0).feedback = .twoLimit ∧ (d .unproven .openEnd).fault = .none) := by
  decide +kernel

theorem witness_StrokeOrCloseWait :
    0 < damperCfg.tSTK ∧ (damperAt .opened (some .openEnd)).held.map DamperHeld.target = some .openEnd ∧
      (damperAt .opened (some .openEnd)).held.map DamperHeld.target ≠ some .closedEnd ∧
      (Source.fire ≠ .override) ∧ damperCfg.feedback = .twoLimit ∧
      { damperCfg with feedback := .openLimit }.feedback = .openLimit ∧
      { damperCfg with feedback := .timed }.feedback = .timed := by decide

theorem witness_StrokeOrCloseWait_dampers :
    let s := withUnit 1 { fanCfg with path0 := some 0 } (.fan (fanAt .running (some (.run 60))))
      (oneDamper damperCfg (damperAt .opened (some .openEnd)))
    let x := (damperAt .opened (some .openEnd)).takeDemand damperCfg (anyPathFanTurning s.store s.plant 0) .closedEnd .fire
    (damperAt .closed (some .closedEnd)).held.map DamperHeld.target ≠ some .openEnd ∧
      (damperAt .waitFan (some .closedEnd)).pos = .waitFan ∧
      s.plant.damper? 0 = some (damperAt .opened (some .openEnd)) ∧ x.pos = .waitFan ∧
      (∀ q ∈ s.store.pathFans 0, 0 < (s.store.point q).tRD) ∧
      ((damperAt .closed (some .closedEnd)).takeDemand damperCfg false .openEnd .fire).pos ≠ .waitFan := by decide +kernel

theorem witness_StrokeOrCloseWait_fans :
    let running : Fan :=
      { fanAt .running (some (.run 60)) with proof := { RunProof.afterReset with gate := .running 9 0 } }
    let failed : Fan := { fanAt .fault (some .stop) with fault := .drive }
    let s := oneFan { fanCfg with path0 := some 0 } running
    0 < fanCfg.tRD ∧
      (∀ f ∈ [fanAt .idle none, { fanAt .queued (some (.run 60)) with wait := some .path }, running, failed,
          { fanAt .runDown (some .stop) with runDown := .running 8 0 }], f.TableSound fanCfg) ∧
      (oneFan fanCfg running).plant.fan? 1 = some running ∧ running.state.energised = true ∧
      pathOpen (oneFan fanCfg running).store (oneFan fanCfg running).plant 1 = true ∧
      pathOpen (withUnit 0 damperCfg (.damper (damperAt .closed none)) s).store
        (withUnit 0 damperCfg (.damper (damperAt .closed none)) s).plant 1 = false := by decide +kernel

theorem witness_DampersStaySound : busy.KindsSound ∧ busy.DampersSound :=
  ⟨by decide +kernel, fun _ => forall_damper (by decide +kernel)⟩

theorem witness_EqrsClearsFault :
    let faulty : Damper := { damperAt .opening (some .openEnd) with fault := .stroke }
    let s := oneDamper damperCfg faulty
    let f (w : FanWant) : Fan := { fanAt .fault (some w) with fault := .drive }
    ((PortId.b ≠ .a) ∧ s.PortAtRest .b ∧ (s.plant.chan 63).unit = .unused) ∧
    (s.plant.damper? 0 = some faulty ∧ faulty.fault ≠ .none ∧ s.CmdSound ∧ 0 < (s.store.point 0).tSTK) ∧
    (oneDamper damperCfg (damperAt .closed none)).plant.damper? 0 = some (damperAt .closed none) ∧
    ((oneFan fanCfg (fanAt .idle none)).plant.fan? 1 = some (fanAt .idle none)) ∧
    ((oneFan fanCfg (f .stop)).PortAtRest .b ∧ (oneFan fanCfg (f .stop)).plant.fan? 1 = some (f .stop) ∧
      (f .stop).state = .fault ∧ (oneFan fanCfg (f .stop)).plant.mode ≠ .restore ∧
      (oneFan fanCfg (f .stop)).NoTest ∧ (oneFan fanCfg (f .stop)).QueueSound ∧ (f .stop).wantsRun = false) ∧
    ((oneFan fanCfg (f (.run 40))).PortAtRest .b ∧ (oneFan fanCfg (f (.run 40))).QueueSound ∧
      (oneFan fanCfg (f (.run 40))).plant.fan? 1 = some (f (.run 40)) ∧ (f (.run 40)).wantsRun = true) := by
  refine ⟨?_, ?_, ?_, ?_, ?_, ?_⟩ <;> decide +kernel

theorem witness_ExpectedCountAndBand :
    (fanCfg.InRange ∧ 100 ≤ 100 ∧ 8 ≤ expectedCount fanCfg 100) ∧
      (expectedCount fanCfg 10 < 8 ∧ 1 ≤ expectedCount fanCfg 10 ∧ expectedCount fanCfg 0 = 0) ∧
      ({ fanCfg with nRATE := 180, nPPR := 8, nGATE := 64, nTOL := 50 }.InRange ∧
        expectedCount { fanCfg with nRATE := 180, nPPR := 8, nGATE := 64, nTOL := 50 } 100 = 3840) := by decide

theorem witness_RisingEdgeCounts :
    (oneFan fanCfg (fanAt .running none)).held = false ∧
      ((oneFan fanCfg (fanAt .running none)).plant.chan 1).unit = .fan (fanAt .running none) := by decide

theorem witness_GateWindowEnds :
    let f : Fan := { fanAt .starting (some (.run 100)) with
      proofLimit := .running 9 0
      proof := { RunProof.afterReset with gate := .running 1 0, count := 4095, low := 1, high := 4095 } }
    let s := oneFan { fanCfg with nK := 1 } f
    s.held = false ∧ s.NoTest ∧ s.QueueSound ∧ s.plant.fan? 1 = some f ∧ f.state.energised = true ∧
      f.proof.gate.isRunning = true ∧ f.proof.count ≤ 4095 := by decide +kernel

theorem witness_FanTimersRunOut :
    let f : Fan := { fanAt .starting (some (.run 100)) with proofLimit := .running 1 0 }
    let g (w : FanWant) : Fan := { fanAt .runDown (some w) with runDown := .running 1 0 }
    ((oneFan fanCfg f).held = false ∧ (oneFan fanCfg f).NoTest ∧ (oneFan fanCfg f).plant.mode ≠ .restore ∧
      (oneFan fanCfg f).QueueSound ∧ (oneFan fanCfg f).plant.fan? 1 = some f ∧ f.state = .starting ∧
      f.proofLimit.isRunning = true) ∧
    ((oneFan fanCfg (g .stop)).QueueSound ∧ (oneFan fanCfg (g .stop)).plant.fan? 1 = some (g .stop) ∧
      (g .stop).state = .runDown ∧ (g .stop).runDown.isRunning = true ∧ (g .stop).wantsRun = false) ∧
    ((oneFan fanCfg (g (.run 40))).QueueSound ∧
      (oneFan fanCfg (g (.run 40))).plant.fan? 1 = some (g (.run 40)) ∧ (g (.run 40)).wantsRun = true) := by
  refine ⟨?_, ?_, ?_⟩ <;> decide +kernel

theorem witness_PeriodBoundaryApplies :
    let f : Fan := { fanAt .running (some (.run 50)) with speed := { applied := 100, pending := some 50, phase := 199 } }
    let s := oneFan fanCfg f
    s.held = false ∧ s.CmdSound ∧ s.plant.fan? 1 = some f ∧ f.state.energised = true ∧ f.wait = none ∧
      f.fault = .none ∧ f.driveAlarm = false := by decide +kernel

theorem witness_SpeedReferenceDuty :
    let ch (b : Bool) : Channel := { Channel.afterReset with cmd := b, unit := .fan (fanAt .running none) }
    (ch true).unit = .fan (fanAt .running none) ∧ (ch false).cmd = false ∧ (ch true).cmd = true ∧
      fanCfg.speedControl = .variable ∧ { fanCfg with speedControl := .fixed }.speedControl = .fixed ∧
      (fanAt .running none).speed.applied ≤ 100 ∧
      { SpeedRef.atRest with applied := 100 }.applied ≤ 100 := by decide

theorem witness_DriveFaultIndicated :
    let f (st : FanState) : Fan := { fanAt st none with fbbFilt := { filtered := .high, timer := .running 1 0 } }
    let s (st : FanState) : State := withChan 1 (fun ch => { ch with fbb := .low })
      (oneFan { fanCfg with driveContact := .closesOnFault } (f st))
    let g : Fan := { fanAt .idle none with fbbFilt := { filtered := .low, timer := .running 1 0 } }
    let u := oneFan { fanCfg with driveContact := .opensOnFault } g
    ((s .running).held = false ∧ (s .running).NoTest ∧ (s .running).plant.mode ≠ .restore ∧ (s .running).QueueSound ∧
      (s .running).plant.fan? 1 = some (f .running) ∧ (f .running).fbbFilt.timer.isRunning = true ∧
      ((s .running).store.point 1).driveContact = .closesOnFault ∧ (f .running).fbbFilt.filtered = .high ∧
      ((s .running).plant.chan 1).fbb = .low ∧ (f .running).state.energised = true) ∧
    (u.QueueSound ∧ u.plant.fan? 1 = some g ∧ (u.store.point 1).driveContact = .opensOnFault ∧
      g.fbbFilt.filtered = .low ∧ (u.plant.chan 1).fbb = .high ∧ g.state.energised = false) := by decide +kernel

theorem witness_InterlockHolds : busy.KindsSound ∧ busy.CmdSound ∧ busy.InterlockSound :=
  ⟨by decide +kernel, by decide +kernel, fun _ => forall_fan (by decide +kernel)⟩

theorem witness_FansAndZoneFiltersStaySound :
    busy.StoreInRange ∧ busy.KindsSound ∧ busy.FansSound ∧ busy.QueueSound ∧ clearing.ZoneFiltersSound :=
  ⟨by decide +kernel, by decide +kernel, fun _ => forall_fan (by decide +kernel), by decide +kernel,
    by decide +kernel⟩

theorem witness_SchedulerAndSupplyStaySound :
    busy.StoreInRange ∧ busy.QueueSound ∧ busy.AllowanceSound ∧ busy.SupplySound :=
  ⟨by decide +kernel, by decide +kernel, by decide +kernel, by decide +kernel⟩

theorem witness_EvaluationGivesReasons :
    let blocked : Ev := .start busy.plant
    let ready (alarm : Bool) : Ev :=
      .start (queuedFan { fanAt .queued (some (.run 60)) with driveAlarm := alarm }).plant
    (blocked.plant.sched.queue.Nodup ∧ (∀ p : Point, p ∈ blocked.plant.sched.queue ↔ blocked.plant.isQueued p = true) ∧
      blocked.plant.fan? 2 = some { fanAt .queued (some (.run 100)) with wait := some .path } ∧
      (fanAt .queued (some (.run 100))).underOverride = false ∧ pathOpen busy.store blocked.plant 2 = false) ∧
    ∀ alarm : Bool, (ready alarm).plant.sched.queue.Nodup ∧
      (∀ p : Point, p ∈ (ready alarm).plant.sched.queue ↔ (ready alarm).plant.isQueued p = true) ∧
      (ready alarm).plant.fan? 1 = some { fanAt .queued (some (.run 60)) with driveAlarm := alarm } ∧
      pathOpen Store.delivery (ready alarm).plant 1 = true := by decide +kernel

/-- Three QUEUED fans under a GOOD supply, the spacing timer idle. -/
def threeQueued (nSPC limit : Nat) : State :=
  let f := fanAt .queued (some (.run 60))
  let s := withUnit 3 fanCfg (.fan f) (withUnit 2 fanCfg (.fan f) (oneFan fanCfg f))
  withPlant (fun pl => { pl with sched := { pl.sched with queue := [1, 2, 3], limit := limit } })
    { s with store := { s.store with device := { s.store.device with nSPC := nSPC } } }

/-- R106, R108, R110: with nSPC 8 one fan starts, the next waits SPACING and the last ORDER; with nSPC 0 fans of 10
units start while a limit of 20 admits them, and the next waits ALLOWANCE; under a limit of 5 each is oversize, and one
starts alone. -/
theorem test_evaluation_order :
    let reasons (n limit : Nat) : List (Option (FanState × Option WaitReason)) :=
      let s := threeQueued n limit
      [1, 2, 3].map fun p => ((evaluate s.env (.start s.plant)).plant.fan? p).map fun f => (f.state, f.wait)
    reasons 8 20 =
        [some (.starting, none), some (.queued, some .spacing), some (.queued, some .order)] ∧
      reasons 0 20 =
        [some (.starting, none), some (.starting, none), some (.queued, some .allowance)] ∧
      reasons 0 5 =
        [some (.starting, none), some (.queued, some .allowance), some (.queued, some .order)] := by decide +kernel

theorem witness_SpacingTimerStartsFan :
    let f := fanAt .queued (some (.run 60))
    let s := queuedFan f
    let idle := withPlant (fun pl => { pl with sched := { pl.sched with spacing := .running 1 0 } }) .reset
    (idle.held = false ∧ idle.plant.sched.spacing.isRunning = true ∧ idle.plant.sched.queue = []) ∧
    (s.held = false ∧ s.plant.sched.spacing.isRunning = true ∧ s.plant.sched.queue = [1] ∧
      s.plant.fan? 1 = some f ∧ f.state = .queued ∧ f.driveAlarm = false ∧ pathOpen s.store s.plant 1 = true ∧
      s.plant.supply.state = .good ∧
      s.plant.sched.inUse + (s.store.point 1).nUNIT ≤ s.plant.sched.limit) := by decide +kernel

theorem witness_SupplyLossTrips :
    let s (x : SupplyState) : State := withPlant (fun pl =>
      { pl with supply :=
          { raw := .low, filter := { filtered := .high, timer := .running 1 0 }, state := x, settle := .idle } })
      (oneFan fanCfg (fanAt .running (some (.run 100))))
    ∀ x ∈ [SupplyState.good, .settling], (s x).held = false ∧ (s x).plant.supply.filter.timer.isRunning = true ∧
      (s x).plant.supply.filter.filtered = .high ∧ (s x).plant.supply.raw = .low ∧ (s x).plant.supply.state = x ∧
      (s x).plant.fan? 1 = some (fanAt .running (some (.run 100))) ∧ FanState.energised .running = true ∧
      0 < ((s x).store.point 1).tRD ∧ (s x).NoTest ∧ (s x).plant.mode ≠ .restore := by decide +kernel

theorem witness_SupplyReturns :
    let failed : State := withPlant (fun pl =>
      { pl with supply :=
          { raw := .high, filter := { filtered := .low, timer := .running 1 0 }, state := .failed, settle := .idle } })
      .reset
    let settling : State := withPlant (fun pl =>
      { pl with supply := { pl.supply with state := .settling, settle := .running 1 0 } }) .reset
    (failed.held = false ∧ failed.plant.supply.filter.timer.isRunning = true ∧
      failed.plant.supply.filter.filtered = .low ∧ failed.plant.supply.raw = .high ∧
      failed.plant.supply.state = .failed ∧ 0 < failed.store.device.tSET) ∧
    (settling.held = false ∧ settling.plant.supply.state = .settling ∧
      settling.plant.supply.settle.isRunning = true ∧ settling.plant.sched.queue = []) := by decide

theorem witness_PtstBegins :
    let cfg : PointCfg := { damperCfg with feedback := .timed }
    let d := damperAt .closed (some .closedEnd)
    let s := withChan 0 (fun ch =>
      { ch with
        normal := .toClose
        resolved := some { action := .toClose, source := .normal, fireZone := none } }) (oneDamper cfg d)
    s.PortAtRest .b ∧ (63 < (64#8).toNat ∧ 64 < (65#8).toNat ∧ 64 < (63#8).toNat + (2#8).toNat) ∧
      ((0#8).toNat ≤ 63 ∧ 0 < (64#8).toNat ∧ (0#8).toNat + (64#8).toNat ≤ 64) ∧
      ((inMode .commission s).PortAtRest .b ∧ (inMode .commission s).plant.mode ≠ .normal) ∧
      (s.plant.mode = .normal ∧ s.NoTest ∧ s.store.kind 0 = .damper ∧ s.plant.damper? 0 = some d ∧
        d.fault = .none ∧ d.pos = .closed ∧ d.stroke = .idle ∧ (s.plant.chan 0).override = .auto ∧
        d.held.map DamperHeld.target = some .closedEnd ∧ (s.store.point 0).feedback = .timed ∧
        0 < (s.store.point 0).tSTK ∧ (s.plant.chan 0).normal = .toClose ∧
        (s.plant.chan 0).resolved = some { action := .toClose, source := .normal, fireZone := none }) ∧
      (∀ p : Point, 60 ≤ p.val → p.val < 60 + 4 → (s.plant.chan p).unit = .unused) := by decide +kernel

theorem witness_TestRecordStaysSound : testing.ModeSound ∧ testing.TestSound :=
  ⟨by decide, by decide, by decide, by decide, fun _ => ⟨⟨2, by decide⟩, by decide, by decide⟩,
    fun h => absurd rfl h⟩

theorem witness_HaltAndResultList :
    (State.reset.PortAtRest .b ∧ State.reset.plant.test.state ≠ .running) ∧
      (testing.PortAtRest .b ∧ testing.plant.test.state = .running ∧ testing.plant.test.current = some 2) ∧
      (63 < (64#8).toNat ∧ (63#8).toNat ≤ 63 ∧
        testing.plant.test.results[(0#8).toNat]? = some { point := 0, outcome := .pass } ∧
        testing.plant.test.results.length ≤ (1#8).toNat) := by decide

theorem witness_JoiningReportJudges :
    let s (x : Option WaitReason) : State :=
      withPlant (fun pl => { pl with joinReports := [{ point := 2, reason := x }] }) testing
    ∀ x ∈ [some WaitReason.path, some .drive, none, some .order],
      (s x).held = false ∧ (s x).plant.joinReports = [{ point := 2, reason := x }] ∧
        (s x).plant.test.state = .running ∧ (s x).plant.test.current = some 2 ∧
        (s x).plant.test.step = some .fanStart := by decide

theorem witness_WriteStrobeStores :
    let r := State.reset.port .b
    let three : PortRec := { r with inSlots := #v[some 0x10#8, some 0#8, some 0#8, none], wptr := 3 }
    let stored : PortRec := { three with inSlots := three.inSlots.set 3 (some 9#8), wptr := 0 }
    State.reset.held = false ∧ r.inSlots[r.wptr] = none ∧ ({ r with wptr := 1 } : PortRec).completeOrder = none ∧
      { r with inSlots := #v[some 1#8, none, none, none] }.inSlots[r.wptr].isSome = true ∧
      three.inSlots[three.wptr] = none ∧ (three.inSlots.set three.wptr (some 9#8) = stored.inSlots ∧ three.wptr + 1 = 0) ∧
      stored.completeOrder = some { code := 0x10#8, b1 := 0#8, b2 := 0#8, b3 := 9#8 } ∧
      three.inProgress = none ∧ three.replyWaiting = false := by decide

theorem witness_SelReleaseDiscards :
    State.reset.held = false ∧ (∀ k : Fin 4, (State.reset.port .a).inSlots[k] = none) ∧
      (let v : Vector (Option Byte) 4 := #v[some 1#8, some 2#8, some 3#8, none]
       (∃ k : Fin 4, v[k].isSome = true) ∧ ∃ k : Fin 4, v[k] = none) ∧
      (let v : Vector (Option Byte) 4 := #v[some 1#8, some 2#8, some 3#8, some 4#8]
       ∀ k : Fin 4, v[k].isSome = true) := by decide

theorem witness_ReadStrobeDrives :
    let r := State.reset.port .b
    let last : PortRec := { r with
      inSlots := #v[some 0x10#8, some 0#8, some 0#8, some 9#8], outSlots := #v[none, none, none, some 7#8], rptr := 3 }
    let read : PortRec := { last with outSlots := last.outSlots.set 3 none, rptr := 0, lastDriven := 7#8 }
    State.reset.held = false ∧ r.outSlots[r.rptr] = none ∧ last.outSlots[last.rptr] = some 7#8 ∧
      (last.outSlots.set last.rptr none = read.outSlots ∧ last.rptr + 1 = 0) ∧
      read.completeOrder = some { code := 0x10#8, b1 := 0#8, b2 := 0#8, b3 := 9#8 } ∧ last.inProgress = none ∧
      read.replyWaiting = false ∧
      ({ last with outSlots := #v[none, none, some 6#8, some 7#8], rptr := 2 } : PortRec).replyWaiting = true := by decide

theorem witness_PortsStaySound : busy.PortsSound ∧ busy.WriteSound :=
  ⟨fun i => by cases i <;> exact ⟨⟨⟨0, by decide⟩, ⟨4, by decide⟩⟩, by decide, by decide⟩, by decide⟩

theorem witness_ChecksBeforeTheOrder_strobes :
    let s1 := after (.wrStrobeEnd .a true 0x15#8) .reset
    let s2 := after (.wrStrobeEnd .a true 1#8) s1
    exec (.wrStrobeEnd .a true 0x15#8) .reset = .next s1 ∧ exec (.wrStrobeEnd .a true 1#8) s1 = .next s2 ∧
      exec (.wrStrobeEnd .a true 2#8) s2 = .next (after (.wrStrobeEnd .a true 2#8) s2) := ⟨rfl, rfl, rfl⟩

theorem witness_ChecksBeforeTheOrder :
    (∀ i, State.reset.PortAtRest i) ∧ orderKind 0x15#8 = none ∧
      (∀ x ∈ [(OrderKind.zalm, PortId.a), (.qpnt, .a), (.ovrd, .f), (.qsys, .f), (.nxch, .f), (.ndem, .b), (.ptst, .b),
        (.wscn, .b), (.wpcf, .b), (.wzcf, .b), (.wdcf, .b)], portAllowed x.1 x.2 = true) ∧
      31 < (32#8).toNat ∧ 63 < (64#8).toNat ∧ 2 < (3#8).toNat ∧ 1 < (2#8).toNat ∧ 3 < (4#8).toNat ∧
      4 ≤ (9#8).toNat ∧ 110 < (111#8).toNat ∧ 64 < (1#8).toNat + (64#8).toNat ∧ 21 < (22#8).toNat :=
  ⟨fun i => by cases i <;> decide, by decide⟩

/-- A value just below a range of Table 9-1, and values just above ranges of Table 9-2. -/
theorem witness_ChecksBeforeTheOrder_tables :
    outsideTable pointFieldRanges (12#8).toNat (4#8).toNat ∧ outsideTable zoneFieldRanges (2#8).toNat (16#8).toNat ∧
      outsideTable deviceFieldRanges (0#8).toNat (64#8).toNat :=
  ⟨⟨(5, 120), rfl, .inl (by decide)⟩, ⟨(0, 15), rfl, .inr (by decide)⟩, ⟨(1, 63), rfl, .inr (by decide)⟩⟩

theorem witness_RefusalChangesNothing :
    decodeOrder .a { code := 0x15#8, b1 := 1#8, b2 := 2#8, b3 := 3#8 } .reset =
      (.reset, some { code := .unknown, r1 := 1#8, r2 := 2#8, r3 := 3#8 }) ∧ ReplyCode.unknown ≠ .done :=
  ⟨rfl, by decide⟩

theorem witness_SystemAndZoneQueries :
    clearing.PortAtRest .a ∧ (31#8).toNat ≤ 31 ∧ clearing.alarms[(0#8).toNat]? = some (entry 3 false) ∧
      clearing.alarms.length ≤ (31#8).toNat := by decide

theorem witness_PointQueries :
    busy.PortAtRest .b ∧ 1 < (2#8).toNat ∧ (1#8).toNat ≤ 1 ∧
      busy.plant.fan? 2 = some { fanAt .queued (some (.run 100)) with wait := some .path } ∧
      busy.plant.fan? 0 = none := by decide +kernel

theorem witness_NxchCollects :
    let s := State.reset.setPort .f { State.reset.port .f with
      points := (Vector.replicate 64 false).set 63 true, zones := Vector.replicate 32 false }
    s.PortAtRest .f ∧ (s.port .f).points[(63 : Point)] = true ∧
      (∀ q : Point, q < 63 → (s.port .f).points[q] = false) ∧ (∀ z : Zone, (s.port .f).zones[z] = false) ∧
      State.reset.PortAtRest .f ∧ (∀ p : Point, (State.reset.port .f).points[p] = false) ∧
      (State.reset.port .f).zones[(0 : Zone)] = true ∧ 1 < (2#8).toNat := by decide +kernel

theorem witness_StoreReadsAndFields :
    State.reset.PortAtRest .b ∧ (PointCfg.delivery.setField 21 7).isSome = true ∧ (20 : Nat) ≠ 21 ∧
      (ZoneCfg.delivery.setField 2 15).isSome = true ∧ (DeviceCfg.delivery.setField 3 15).isSome = true ∧
      actionOf 110#8 = some (some (.run 100)) ∧
      (Store.delivery.point 63).setField 21 7 = some { PointCfg.delivery with nSTG := 7 } ∧
      (Store.delivery.zone 31).setField 2 15 = some { ZoneCfg.delivery with tZF := 15 } ∧
      Store.delivery.device.setField 3 15 = some { DeviceCfg.delivery with tFBF := 15 } := by decide

theorem witness_StoreWriteAccepted :
    let s := inMode .commission .reset
    (s.PortAtRest .b ∧ s.plant.mode = .commission) ∧ (State.reset.PortAtRest .b ∧ State.reset.plant.mode ≠ .commission) ∧
      ((s.store.point 63).setField (21#8).toNat (7#8).toNat).isSome = true ∧
      ((s.store.zone 31).setField (2#8).toNat (15#8).toNat).isSome = true ∧
      actionOf 0#8 = some none ∧ (s.store.device.setField (0#8).toNat (63#8).toNat).isSome = true := by decide

theorem witness_StoreWriteCompletes :
    let o : Order := { code := 0x50#8, b1 := 0#8, b2 := 0#8, b3 := 2#8 }
    let s (w : WriteTarget) : State :=
      { State.reset.setPort .b { State.reset.port .b with inProgress := some o } with
        write := some { target := w, cycles := 0 } }
    (State.reset.held = false ∧ State.reset.write = none) ∧
    (∀ w ∈ [WriteTarget.point 0 0 2, .point 63 0 1, .scenario 31 63 none, .zone 31 2 15, .zone 0 1 1, .device 3 15,
        .device 0 63],
      (s w).held = false ∧ (s w).write = some { target := w, cycles := 0 } ∧ ((s w).port .b).inProgress = some o ∧
        ((s w).port .b).replyWaiting = false) ∧
    ((s (.zone 0 1 1)).ModeSound ∧ (after .storeWriteCompletes (s (.zone 0 1 1))).active 0 ≠ (s (.zone 0 1 1)).active 0) ∧
    ((s (.point 0 0 2)).NoTest ∧ (s (.point 0 0 2)).QueueSound ∧ (s (.point 0 0 2)).plant.mode ≠ .restore ∧
      (after .storeWriteCompletes (s (.point 0 0 2))).store.kind 0 = .damper ∧
      (after .storeWriteCompletes (s (.point 63 0 1))).store.kind 63 = .fan ∧
      0 < ((after .storeWriteCompletes (s (.point 63 0 1))).store.point 63).tRD) := by decide +kernel

/-- A pending limit: two fans STARTING with 40 units in use, and nALW written as 10. -/
theorem witness_StoreWriteCompletes_pending :
    let s := withPlant (fun pl => { pl with sched := { pl.sched with inUse := 40 } })
      (withUnit 2 fanCfg (.fan (fanAt .starting (some (.run 60)))) (oneFan fanCfg (fanAt .starting (some (.run 60)))))
    10 < s.plant.sched.inUse ∧ 1 < s.plant.nStarting := by decide +kernel

theorem witness_ResetHeldRests :
    (after .deviceResetHeld .reset).held = true ∧ exec .deviceReset .reset = .next (after .deviceReset .reset) ∧
      State.reset.write = none ∧
      (after (.wdcf .b 0#8 30#8 0#8) (inMode .commission .reset)).write =
        some { target := .device 0 30, cycles := 48000 } := ⟨rfl, rfl, rfl, by decide⟩

theorem witness_ResetHeldRests_end :
    (∀ p, (after .deviceReset busy).store.kind p = .fan → 0 < ((after .deviceReset busy).store.point p).tRD) ∧
      busy.store.kind 0 = .damper := by decide +kernel

theorem witness_ProofTestProgress :
    let ev (s : State) : Ev := .start (inMode .test s).plant
    let stuck : Damper := { damperAt .opening (some .openEnd) with fault := .stroke }
    let failed : Fan := { fanAt .fault none with fault := .drive }
    (∀ s ∈ [State.reset, oneDamper damperCfg stuck, oneFan fanCfg failed], (ev s).plant.mode = .test) ∧
      (((ev .reset).plant.chan 63).unit = .unused ∧
        ((ev (withChan 0 (fun ch => { ch with override := .on }) (oneDamper damperCfg stuck))).plant.chan 0).override ≠
          .auto) ∧
      (((ev (oneDamper damperCfg stuck)).plant.chan 0).unit = .damper stuck ∧ stuck.fault ≠ .none ∧
        ((ev (oneDamper damperCfg stuck)).plant.chan 0).normal.inForm damperCfg = .toClose ∧
        Action.toOpen.inForm damperCfg = .toOpen ∧ (damperAt .closed none).fault = .none) ∧
      (((ev (oneFan fanCfg failed)).plant.chan 1).unit = .fan failed ∧ (fanAt .running none).state ≠ .fault ∧
        (Action.run 60).inForm fanCfg = .run 60 ∧ Action.stop.inForm fanCfg = .stop) ∧
      (∀ step ∈ [TestStep.damperOut, .damperBack, .fanStart, .fanStop],
        let t := withPlant (fun pl => { pl with test := { pl.test with step := some step } }) testing
        (Ev.start t.plant).underTest 2 = true ∧ (Ev.start t.plant).underTest 3 = false ∧
          (Ev.start t.plant).plant.mode = .test ∧ (Ev.start t.plant).plant.test.step = some step) ∧
      (withPlant (fun pl => { pl with test := { pl.test with home := some .toClose } }) testing).plant.test.home =
        some .toClose ∧
      testing.plant.test.first + testing.plant.test.count = (3 : Point).val + 1 ∧
      (testing.PortAtRest .a ∧ testing.ModeSound ∧ testing.plant.test.state = .running ∧
        testing.plant.test.current = some 2 ∧ (testing.zone 31).isolated = false) := by decide +kernel

theorem witness_ResetStateOfEquipment :
    let s := { busy with zones := Vector.replicate 32 { raw := .high, filter := .settled .high, isolated := false } }
    s.write = none ∧ s.store.kind 1 = .fan ∧ 0 < (s.store.point 1).tRD ∧ 1 ∈ s.store.pathFans 0 ∧
      s.store.kind 63 = .unused := by decide +kernel

end Sys2Proof.Tests
end

section
/-! SUPPORT. What an event of the plant is made of, said once: every operation of the sequencers, the resolver, the test
unit and the evaluation is a chain of the updates of `SeqUpd` and `ResUpd`, each with the condition under which it is
made. `settleAll_moves` and `finishEvent_moves` carry this through a whole event, so that a property of the plant which
every update keeps is a property that every event keeps (`Moves.keeps`). -/

namespace Sys2Proof.Machine

/-! ## Marks, the test record and the joinings noted -/

/-- What the sequencers and the scheduler leave of an event in progress: its marks stand, the test record is as it was,
and without a running test no joining is noted. -/
def Ev.Onward (a b : Ev) : Prop :=
  a.marks ⊆ b.marks ∧ b.plant.test = a.plant.test ∧ (a.plant.test.state ≠ .running → b.joined = a.joined)

theorem Ev.Onward.refl (a : Ev) : a.Onward a := ⟨fun _ h => h, rfl, fun _ => rfl⟩

theorem Ev.Onward.trans {a b c : Ev} (h : a.Onward b) (k : b.Onward c) : a.Onward c :=
  ⟨fun _ x => k.1 (h.1 x), k.2.1.trans h.2.1, fun x => (k.2.2 (h.2.1 ▸ x)).trans (h.2.2 x)⟩

/-- An update that adds no mark and notes no joining goes onward. -/
theorem Ev.onward_of_eq {a b : Ev} (hm : b.marks = a.marks) (ht : b.plant.test = a.plant.test)
    (hj : b.joined = a.joined) : a.Onward b := ⟨fun _ h => hm ▸ h, ht, fun _ => hj⟩

theorem onward_foldl {α : Type} (f : Ev → α → Ev) (h : ∀ (ev : Ev) (x : α), ev.Onward (f ev x)) (l : List α) (ev : Ev) :
    ev.Onward (l.foldl f ev) := by
  induction l generalizing ev with
  | nil => exact .refl _
  | cons x xs ih => exact (h ev x).trans (ih _)

theorem Ev.markIf_onward (b : Bool) (p : Point) (ev : Ev) : ev.Onward (ev.markIf b p) := by
  cases b
  · exact .refl _
  · exact ⟨fun _ h => List.mem_cons_of_mem _ h, rfl, fun _ => rfl⟩

theorem putDamper_onward (env : Env) (p : Point) (d : Damper) (ev : Ev) : ev.Onward (putDamper env p d ev) := by
  unfold putDamper
  split
  · exact .refl _
  · have k (b : Bool) (c : Channel) := Ev.markIf_onward b p (ev.setChan p c)
    dsimp only
    split <;> exact k _ _

theorem releaseOne_onward (env : Env) (ev : Ev) (p : Point) : ev.Onward (releaseOne env ev p) := by
  unfold releaseOne
  split
  · exact .refl _
  · split
    · exact putDamper_onward ..
    · exact .refl _

theorem releaseWaiting_onward (env : Env) (ev : Ev) : ev.Onward (releaseWaiting env ev) :=
  onward_foldl _ (releaseOne_onward env) _ _

theorem testPendingLimit_onward (ev : Ev) : ev.Onward ev.testPendingLimit := by
  unfold Ev.testPendingLimit
  split
  · exact .refl _
  · split <;> exact Ev.onward_of_eq rfl rfl rfl

theorem unitsReturned_onward (n : Nat) (ev : Ev) : ev.Onward (ev.unitsReturned n) :=
  (Ev.onward_of_eq rfl rfl rfl : ev.Onward (ev.withSched fun sc => { sc with inUse := sc.inUse - n })).trans
    (testPendingLimit_onward _)

theorem noteJoining_onward (p : Point) (ev : Ev) : ev.Onward (ev.noteJoining p) := by
  unfold Ev.noteJoining
  split
  · rename_i h
    exact ⟨fun _ x => x, rfl, fun x => absurd h.1 x⟩
  · exact .refl _

/-- The queue's part of a fan's change: it joins the queue, leaves it, or neither (R103). -/
def queueFollows (env : Env) (p : Point) (o f : Fan) (ev : Ev) : Ev :=
  if o.state ≠ .queued ∧ f.state = .queued then
    ((ev.withSched (·.join env.store p)).evaluateIf true).noteJoining p
  else if o.state = .queued ∧ f.state ≠ .queued then (ev.withSched (·.leave p)).evaluateIf true
  else ev

/-- The scheduler follows a fan's change: the queue, then the units of a fan that leaves STARTING. -/
theorem schedulerFollows_eq (env : Env) (p : Point) (o f : Fan) (ev : Ev) :
    ∃ b, schedulerFollows env p o f ev =
      (if o.state = .starting ∧ f.state ≠ .starting then
        (queueFollows env p o f ev).unitsReturned (env.store.point p).nUNIT
      else queueFollows env p o f ev).evaluateIf b := ⟨_, rfl⟩

theorem queueFollows_onward (env : Env) (p : Point) (o f : Fan) (ev : Ev) :
    ev.Onward (queueFollows env p o f ev) := by
  unfold queueFollows
  split
  · exact (Ev.onward_of_eq rfl rfl rfl : ev.Onward ((ev.withSched (·.join env.store p)).evaluateIf true)).trans
      (noteJoining_onward p _)
  · split <;> exact Ev.onward_of_eq rfl rfl rfl

theorem schedulerFollows_onward (env : Env) (p : Point) (o f : Fan) (ev : Ev) :
    ev.Onward (schedulerFollows env p o f ev) := by
  obtain ⟨b, e⟩ := schedulerFollows_eq env p o f ev
  rw [e]
  have k : ∀ x : Ev, x.Onward (x.evaluateIf b) := fun x => Ev.onward_of_eq rfl rfl rfl
  refine .trans ?_ (k _)
  split
  · exact (queueFollows_onward ..).trans (unitsReturned_onward _ _)
  · exact queueFollows_onward ..

/-- A fan's record written: the record in its normal form with its CMD, then what follows at the scheduler, in the marks
and reports, and at the dampers that wait. -/
theorem putFan_eq (env : Env) (p : Point) (f : Fan) {ev : Ev} {o : Fan} (h : ev.plant.fan? p = some o) :
    ∃ (b r c : Bool),
      let g := f.norm (env.store.point p)
      let ev1 := (ev.setChan p { ev.plant.chan p with unit := .fan g, cmd := g.state.energised }).markIf b p
      let ev2 := schedulerFollows env p o g ev1
      let ev3 := if r then ev2.report (.fan p g.state g.fault) else ev2
      (c = true → o.state.turning = true ∧ f.state.turning = false) ∧
        putFan env p f ev = if c then releaseWaiting env ev3 else ev3 := by
  refine ⟨(o.state != (f.norm (env.store.point p)).state || o.fault != (f.norm (env.store.point p)).fault ||
    o.driveAlarm != (f.norm (env.store.point p)).driveAlarm), decide (o.state ≠ f.state),
    o.state.turning && !f.state.turning, by simp, ?_⟩
  unfold putFan
  simp only [h, decide_eq_true_eq, Fan.norm_state]
  rfl

theorem putFan_onward (env : Env) (p : Point) (f : Fan) (ev : Ev) : ev.Onward (putFan env p f ev) := by
  cases h : ev.plant.fan? p with
  | none => simpa [putFan, h] using Ev.Onward.refl ev
  | some o =>
    obtain ⟨b, r, c, -, e⟩ := putFan_eq env p f h
    rw [e]
    have k1 (ch : Channel) : ev.Onward ((ev.setChan p ch).markIf b p) := Ev.markIf_onward b p (ev.setChan p ch)
    have k2 (x : Ev) (y : Report) : x.Onward (if r then x.report y else x) := by
      split <;> exact Ev.onward_of_eq rfl rfl rfl
    have k3 (x : Ev) : x.Onward (if c then releaseWaiting env x else x) := by
      split
      · exact releaseWaiting_onward env x
      · exact .refl _
    exact (k1 _).trans ((schedulerFollows_onward ..).trans ((k2 _ _).trans (k3 _)))

theorem runDownEnds_onward (env : Env) (p : Point) (ev : Ev) : ev.Onward (runDownEnds env p ev) := by
  unfold runDownEnds
  split
  · exact .refl _
  · split
    · exact putFan_onward ..
    · exact .refl _

theorem enterRunDown_onward (env : Env) (p : Point) (ev : Ev) : ev.Onward (enterRunDown env p ev) := by
  unfold enterRunDown
  split
  · exact .refl _
  · dsimp only
    split
    · exact (putFan_onward ..).trans (runDownEnds_onward ..)
    · exact putFan_onward ..

/-! ## The updates -/

/-- What a demand makes of a fan record before any run-down (R76 to R78, R87). -/
inductive Handed (c : PointCfg) (o : Fan) : Fan → Prop
  | held (h : Option FanHeld) : Handed c o { o with held := h }
  | queues (h : Option FanHeld) (ho : o.state = .idle) : Handed c o { o with held := h, state := .queued }
  | leaves (h : Option FanHeld) (ho : o.state = .queued) : Handed c o { o with held := h, state := .idle }
  | speed (h : Option FanHeld) (n : Nat) (ho : o.state.energised = true) :
      Handed c o { o with held := h, speed := o.speed.take c n }

/-- One update of the sequencers and the evaluation. With `Q` the queue is known to hold the QUEUED fans, so that the
evaluation touches no other. -/
inductive SeqUpd (env : Env) (Q : Prop) (ev : Ev) : Ev → Prop
  | damper (p : Point) (d : Damper) : SeqUpd env Q ev (putDamper env p d ev)
  | fan (p : Point) {o f : Fan} (h : ev.plant.fan? p = some o) (hf : Handed (env.store.point p) o f) :
      SeqUpd env Q ev (putFan env p f ev)
  | runDown (p : Point) {o : Fan} (h : ev.plant.fan? p = some o) (he : o.state.energised = true) :
      SeqUpd env Q ev (enterRunDown env p ev)
  | wait (p : Point) {f : Fan} (r : WaitReason) (h : ev.plant.fan? p = some f) (hq : Q → f.state = .queued) :
      SeqUpd env Q ev (setWait p f r ev)
  | start (p : Point) {f : Fan} (h : ev.plant.fan? p = some f) (hq : Q → f.state = .queued) :
      SeqUpd env Q ev (startFan env p f ev)

/-- One update of the resolver, the test unit or the event's own books. -/
inductive ResUpd (env : Env) (ev : Ev) : Ev → Prop
  | book {ev' : Ev} (hp : ev'.plant = { ev.plant with draws := ev'.plant.draws }) (hm : ev.marks ⊆ ev'.marks)
      (hj : ev'.joined = ev.joined) : ResUpd env ev ev'
  | lastFire (p : Point) (hk : env.store.kind p ≠ .unused) (h : ev.plant.mode = .fire) :
      ResUpd env ev
        (ev.setChan p
          { ev.plant.chan p with lastFire := some (fireDemand env p (ev.plant.chan p).normal).action })
  | noDemand (p : Point) (hk : env.store.kind p = .unused) :
      ResUpd env ev (ev.setChan p { ev.plant.chan p with resolved := none })
  | demand (p : Point) (hk : env.store.kind p ≠ .unused) :
      ResUpd env ev
        ((ev.setChan p
          { ev.plant.chan p with resolved := some (resolution env ev.plant.mode p (ev.plant.chan p)) }).mark p)
  | testDemand (p : Point) (a : Option Action) (h : ev.plant.test.state = .running) :
      ResUpd env ev (ev.setChan p { ev.plant.chan p with testDemand := a })
  | test (g : TestRecord → TestRecord) (h : ev.plant.test.state = .running)
      (hg : (g ev.plant.test).state = .running) : ResUpd env ev (ev.withTest g)
  | testDone (h : ev.plant.test.state = .running) :
      ResUpd env ev ((ev.withTest fun t => { t.noStep with state := .done }).setMode .normal)
  | restored (h : ev.plant.mode = .restore) : ResUpd env ev (ev.setMode .normal)
  | joins :
      ResUpd env ev
        (ev.withPlant fun pl =>
          { pl with joinReports := pl.joinReports ++ ev.joined.reverse.filterMap (joinReport ev) })

/-- One update of an event in progress. -/
inductive Upd (env : Env) (Q : Prop) (ev : Ev) : Ev → Prop
  | seq {ev' : Ev} (h : SeqUpd env Q ev ev') : Upd env Q ev ev'
  | res {ev' : Ev} (h : ResUpd env ev ev') : Upd env Q ev ev'

/-- A chain of updates. -/
abbrev Moves (env : Env) (Q : Prop) : Ev → Ev → Prop := Relation.ReflTransGen (Upd env Q)

/-- What every update keeps, a chain of updates keeps. -/
theorem Moves.keeps {env : Env} {Q : Prop} {P : Ev → Prop} (h : ∀ a b, Upd env Q a b → P a → P b) {a b : Ev}
    (m : Moves env Q a b) : P a → P b := by
  induction m with
  | refl => exact id
  | tail _ u ih => exact fun x => h _ _ u (ih x)

theorem Moves.seq {env : Env} {Q : Prop} {a b : Ev} (h : SeqUpd env Q a b) : Moves env Q a b := .single (.seq h)
theorem Moves.res {env : Env} {Q : Prop} {a b : Ev} (h : ResUpd env a b) : Moves env Q a b := .single (.res h)

/-- A change of the marks, reports and causes of evaluation alone. -/
theorem Moves.book {env : Env} {Q : Prop} {a b : Ev} (hp : b.plant = a.plant) (hm : a.marks ⊆ b.marks)
    (hj : b.joined = a.joined) : Moves env Q a b := .res (.book (by rw [hp]) hm hj)

theorem foldl_moves {α : Type} {env : Env} {Q : Prop} (f : Ev → α → Ev) (h : ∀ ev x, Moves env Q ev (f ev x))
    (l : List α) (ev : Ev) : Moves env Q ev (l.foldl f ev) := by
  induction l generalizing ev with
  | nil => exact .refl
  | cons x xs ih => exact (h ev x).trans (ih _)

section Chains
variable (env : Env) (Q : Prop)

/-! ## The sequencers -/

theorem evaluateIf_moves (b : Bool) (ev : Ev) : Moves env Q ev (ev.evaluateIf b) := .book rfl (fun _ h => h) rfl

theorem report_moves (r : Report) (ev : Ev) : Moves env Q ev (ev.report r) := .book rfl (fun _ h => h) rfl

theorem reportIf_moves (c : Prop) [Decidable c] (r : Report) (ev : Ev) :
    Moves env Q ev (if c then ev.report r else ev) := by
  split
  · exact report_moves env Q r ev
  · exact .refl

theorem draw_moves (ev : Ev) : Moves env Q ev ev.draw := .res (.book rfl (fun _ h => h) rfl)

theorem interlockTrip_moves (ev : Ev) (q : Point) : Moves env Q ev (interlockTrip env ev q) := by
  unfold interlockTrip
  split
  · exact .refl
  · rename_i f h
    split
    · rename_i e
      exact .seq (.runDown q h (by simp only [Bool.and_eq_true] at e; exact e.1))
    · exact .refl

theorem tripPathFans_moves (p : Point) (ev : Ev) : Moves env Q ev (tripPathFans env p ev) :=
  foldl_moves _ (interlockTrip_moves env Q) _ _

theorem releaseOne_moves (ev : Ev) (p : Point) : Moves env Q ev (releaseOne env ev p) := by
  unfold releaseOne
  split
  · exact .refl
  · split
    · exact .seq (.damper ..)
    · exact .refl

theorem releaseWaiting_moves (ev : Ev) : Moves env Q ev (releaseWaiting env ev) :=
  foldl_moves _ (releaseOne_moves env Q) _ _

theorem moveDamper_moves (p : Point) (d : Damper) (ev : Ev) : Moves env Q ev (moveDamper env p d ev) := by
  unfold moveDamper
  dsimp only
  split
  · exact (Moves.seq (.damper ..)).trans (tripPathFans_moves env Q ..)
  · exact .seq (.damper ..)

theorem handDamper_moves (p : Point) (e : DamperEnd) (src : Source) (ev : Ev) :
    Moves env Q ev (handDamper env p e src ev) := by
  unfold handDamper
  split
  · exact .refl
  · exact moveDamper_moves env Q ..

/-- A held demand written at an energised fan that then runs down, or stays. -/
theorem putFan_enterRunDown_moves {p : Point} {ev : Ev} {o f : Fan} (h : ev.plant.fan? p = some o)
    (hf : Handed (env.store.point p) o f) (he : f.state.energised = true) :
    Moves env Q ev (enterRunDown env p (putFan env p f ev)) :=
  (Moves.seq (.fan p h hf)).trans (Moves.seq (.runDown p (putFan_fan?_self env f h) he))

theorem handFan_moves (p : Point) (w : FanWant) (src : Source) (ev : Ev) :
    Moves env Q ev (handFan env p w src ev) := by
  unfold handFan
  split
  · exact .refl
  · rename_i o h
    have takes (n : Nat) (he : o.state.energised = true) : Moves env Q ev
        (let x := putFan env p { o with held := some ⟨w, src⟩, speed := o.speed.take (env.store.point p) n } ev
        if src ≠ .override ∧ pathOpen env.store x.plant p = false then enterRunDown env p x else x) := by
      dsimp only
      split
      · exact putFan_enterRunDown_moves env Q h (.speed _ n he) he
      · exact .seq (.fan p h (.speed _ n he))
    have stops (he : o.state.energised = true) :
        Moves env Q ev (enterRunDown env p (putFan env p { o with held := some ⟨w, src⟩ } ev)) :=
      putFan_enterRunDown_moves env Q h (.held _) he
    have holds : Moves env Q ev (putFan env p { o with held := some ⟨w, src⟩ } ev) := .seq (.fan p h (.held _))
    dsimp only
    split <;> rename_i hs
    · exact .seq (.fan p h (.queues _ hs))
    · exact .seq (.fan p h (.leaves _ hs))
    · exact holds.trans (evaluateIf_moves env Q true _)
    iterate 3 · exact takes _ (by rw [hs]; rfl)
    iterate 3 · exact stops (by rw [hs]; rfl)
    iterate 3 · exact holds

theorem handDemand_moves (p : Point) (d : Demand) (ev : Ev) : Moves env Q ev (handDemand env p d ev) := by
  unfold handDemand
  split
  · exact .refl
  · exact handDamper_moves env Q ..
  · exact handFan_moves env Q ..

/-! ## The resolver -/

theorem storeLastFire_moves (p : Point) (hk : env.store.kind p ≠ .unused) (ev : Ev) :
    Moves env Q ev (storeLastFire env p ev) := by
  unfold storeLastFire
  split
  · rename_i h; exact .res (.lastFire p hk h)
  · exact .refl

theorem handOver_moves (p : Point) (hk : env.store.kind p ≠ .unused) (ev : Ev) :
    Moves env Q ev (handOver env p (resolution env ev.plant.mode p (ev.plant.chan p)) ev) := by
  unfold handOver
  dsimp only
  exact (Moves.res (.demand p hk)).trans ((reportIf_moves env Q _ _ _).trans (handDemand_moves env Q ..))

theorem resolvePoint_moves (b : Bool) (ev : Ev) (p : Point) : Moves env Q ev (resolvePoint env b ev p) := by
  unfold resolvePoint
  split
  · rename_i h; exact .res (.noDemand p h)
  · rename_i hk
    dsimp only
    split
    · exact (storeLastFire_moves env Q p hk ev).trans (handOver_moves env Q p hk _)
    · exact storeLastFire_moves env Q p hk ev

theorem resolveInOrder_moves (b : Bool) (ps : List Point) (ev : Ev) :
    Moves env Q ev (resolveInOrder env b ps ev) := foldl_moves _ (resolvePoint_moves env Q b) _ _

theorem storeAllLastFire_moves (ev : Ev) : Moves env Q ev (storeAllLastFire env ev) := by
  refine foldl_moves _ (fun ev p => ?_) _ _
  split
  · exact .refl
  · rename_i h; exact storeLastFire_moves env Q p h ev

theorem resolveAll_moves (b : Bool) (ev : Ev) : Moves env Q ev (resolveAll env b ev) :=
  (storeAllLastFire_moves env Q ev).trans
    ((draw_moves env Q _).trans (resolveInOrder_moves env Q b _ _))

/-! ## The proof test -/

/-- The sequencers leave the test record, and so does a resolution. -/
theorem handDemand_test (p : Point) (d : Demand) (ev : Ev) : (handDemand env p d ev).plant.test = ev.plant.test :=
  (handDemand_frame sequencersOnly_frame env p d ev).2.1

theorem resolvePoint_test (b : Bool) (ev : Ev) (p : Point) :
    (resolvePoint env b ev p).plant.test = ev.plant.test := by
  have k : (storeLastFire env p ev).plant.test = ev.plant.test := by unfold storeLastFire; split <;> rfl
  unfold resolvePoint
  split
  · rfl
  · dsimp only
    split
    · unfold handOver
      dsimp only
      rw [handDemand_test]
      split <;> exact k
    · exact k

theorem setTestDemand_test (p : Point) (a : Option Action) (ev : Ev) :
    (setTestDemand env p a ev).plant.test = ev.plant.test := resolvePoint_test env false _ p

section Running
variable {ev : Ev} (hr : ev.plant.test.state = .running)
include hr

theorem setTestDemand_moves (p : Point) (a : Option Action) : Moves env Q ev (setTestDemand env p a ev) :=
  (Moves.res (.testDemand p a hr)).trans (resolvePoint_moves env Q false _ p)

theorem testDone_moves : Moves env Q ev (testDone env ev) :=
  (Moves.res (.testDone hr)).trans (resolveAll_moves env Q false _)

theorem withTest_setTestDemand_moves (g : TestRecord → TestRecord) (hg : (g ev.plant.test).state = .running)
    (p : Point) (a : Option Action) : Moves env Q ev (setTestDemand env p a (ev.withTest g)) :=
  (Moves.res (.test g hr hg)).trans (setTestDemand_moves env Q (ev := ev.withTest g) hg p a)

theorem beginSteps_moves (n k : Nat) : Moves env Q ev (beginSteps env n k ev) := by
  induction n generalizing k ev with
  | zero => exact testDone_moves env Q hr
  | succ n ih =>
    unfold beginSteps
    split
    · rename_i h
      dsimp only
      refine (Moves.res (.test (fun t => { t with current := some ⟨k, h⟩ }) hr hr)).trans ?_
      have hr' : (ev.withTest fun t => { t with current := some ⟨k, h⟩ }).plant.test.state = .running := hr
      split
      · exact ih hr' _
      · exact (Moves.res (.test _ hr' hr')).trans (ih (by exact hr') _)
      · exact withTest_setTestDemand_moves env Q hr' _ hr' _ _
      · exact withTest_setTestDemand_moves env Q hr' _ hr' _ _
    · exact testDone_moves env Q hr

theorem endStep_moves (p : Point) (o : TestOutcome) : Moves env Q ev (endStep env p o ev) := by
  have k := withTest_setTestDemand_moves env Q hr (fun t => (t.add p o).noStep) hr p none
  refine k.trans (beginSteps_moves env Q ?_ _ _)
  rw [setTestDemand_test]
  exact hr

theorem takeDamperReport_moves (p : Point) (pos : Option DamperPos) (x : DamperFault) :
    Moves env Q ev (takeDamperReport env p pos x ev) := by
  unfold takeDamperReport
  split
  · split
    · exact endStep_moves env Q hr p _
    · split
      · exact withTest_setTestDemand_moves env Q hr _ hr p _
      · exact .refl
  · split
    · exact endStep_moves env Q hr p _
    · split
      · exact endStep_moves env Q hr p _
      · exact .refl
  · exact .refl

theorem takeFanReport_moves (p : Point) (st : FanState) (x : FanFault) :
    Moves env Q ev (takeFanReport env p st x ev) := by
  unfold takeFanReport
  split
  · split
    · exact withTest_setTestDemand_moves env Q hr _ hr p _
    · exact endStep_moves env Q hr p _
    · exact .refl
  · split
    · exact endStep_moves env Q hr p _
    · exact .refl
  · exact .refl

end Running

theorem takeJoinReport_moves (r : JoinReport) (ev : Ev) : Moves env Q ev (takeJoinReport env r ev) := by
  unfold takeJoinReport
  split
  · rename_i h
    split
    · exact endStep_moves env Q h.1 _ _
    · exact endStep_moves env Q h.1 _ _
    · exact .refl
  · exact .refl

theorem checkRestore_moves (ev : Ev) : Moves env Q ev (checkRestore env ev) := by
  unfold checkRestore
  split
  · rename_i h
    exact (Moves.res (.restored h.1)).trans (resolveAll_moves env Q false _)
  · exact .refl

/-- A point under test is under a running test. -/
theorem Ev.running_of_underTest {p : Point} {ev : Ev} (h : ev.underTest p = true) :
    ev.plant.test.state = .running := (of_decide_eq_true h).1

theorem takeReport_moves (ev : Ev) (r : Report) : Moves env Q ev (takeReport env ev r) := by
  cases r with
  | damper p pos x =>
    simp only [takeReport]
    split
    · rename_i h; exact takeDamperReport_moves env Q (Ev.running_of_underTest h) ..
    · exact .refl
  | fan p st x =>
    simp only [takeReport]
    refine (checkRestore_moves env Q ev).trans ?_
    split
    · rename_i h; exact takeFanReport_moves env Q (Ev.running_of_underTest h) ..
    · exact .refl
  | override p =>
    simp only [takeReport]
    split
    · rename_i h
      simp only [Bool.and_eq_true] at h
      exact endStep_moves env Q (Ev.running_of_underTest h.1) ..
    · exact .refl
  | restoreCheck => exact checkRestore_moves env Q ev

/-! ## The event as a whole -/

theorem settle_moves (n : Nat) (ev : Ev) : Moves env Q ev (settle env n ev) := by
  induction n generalizing ev with
  | zero => exact .refl
  | succ n ih =>
    unfold settle
    split
    · exact .refl
    · have k : Moves env Q ev { ev with reports := [] } := .book rfl (fun _ h => h) rfl
      exact k.trans ((foldl_moves _ (takeReport_moves env Q) _ _).trans (ih _))

/-- Taking up the reports is a chain of updates. -/
theorem settleAll_moves (ev : Ev) : Moves env Q ev (settleAll env ev) := settle_moves env Q ..

/-- The start touches no other fan. -/
theorem startFan_fan?_ne {p q : Point} (f : Fan) (ev : Ev) (h : q ≠ p) :
    (startFan env p f ev).plant.fan? q = ev.plant.fan? q := putFan_fan?_ne env _ ev h

theorem setWait_fan?_ne {p q : Point} (f : Fan) (r : WaitReason) (ev : Ev) (h : q ≠ p) :
    (setWait p f r ev).plant.fan? q = ev.plant.fan? q := by
  simp [setWait, Plant.fan?, h]

/-- The walk over fans that, where `Q` asks it, are QUEUED and each named once. -/
theorem evaluationWalk_moves (b : Bool) (ps : List Point) (ev : Ev)
    (hq : Q → ps.Nodup ∧ ∀ p ∈ ps, ∀ f, ev.plant.fan? p = some f → f.state = .queued) :
    Moves env Q ev (evaluationWalk env b ps ev) := by
  induction ps generalizing b ev with
  | nil => exact .refl
  | cons p ps ih =>
    have front (f : Fan) (h : ev.plant.fan? p = some f) : Q → f.state = .queued :=
      fun q => (hq q).2 p List.mem_cons_self f h
    have rest (ev' : Ev) (h : ∀ q, q ≠ p → ev'.plant.fan? q = ev.plant.fan? q) : Q → ps.Nodup ∧
        ∀ q ∈ ps, ∀ f, ev'.plant.fan? q = some f → f.state = .queued := by
      intro q
      obtain ⟨hn, ha⟩ := hq q
      obtain ⟨hp, hn⟩ := List.nodup_cons.mp hn
      refine ⟨hn, fun x hx f hf => ha x (List.mem_cons_of_mem _ hx) f ?_⟩
      rwa [h x (fun e => hp (e ▸ hx))] at hf
    unfold evaluationWalk
    split
    · exact ih _ _ (rest ev fun _ _ => rfl)
    · rename_i f h
      have waits (b : Bool) (r : WaitReason) :
          Moves env Q ev (evaluationWalk env b ps (setWait p f r ev)) :=
        (Moves.seq (.wait p r h (front f h))).trans (ih _ _ (rest _ fun _ e => setWait_fan?_ne f r ev e))
      split
      · exact waits _ _
      · split
        · exact waits _ _
        · split
          · exact waits _ _
          · exact (Moves.seq (.start p h (front f h))).trans
              (ih _ _ (rest _ fun _ e => startFan_fan?_ne env f ev e))

/-- What the evaluation asks of the queue when it is to touch QUEUED fans only. -/
def Plant.QueueOfQueued (pl : Plant) : Prop :=
  pl.sched.queue.Nodup ∧ ∀ p ∈ pl.sched.queue, ∀ f, pl.fan? p = some f → f.state = .queued

theorem evaluate_moves (ev : Ev) (hq : Q → ev.plant.QueueOfQueued) : Moves env Q ev (evaluate env ev) :=
  evaluationWalk_moves env Q _ _ _ hq

/-- The end of an event is a chain of updates. -/
theorem finishEvent_moves (ev : Ev) (hq : Q → (settleAll env ev).plant.QueueOfQueued) :
    Moves env Q ev (finishEvent env ev) := by
  have k : Moves env Q (settleAll env ev)
      (if (settleAll env ev).evalDue then evaluate env (settleAll env ev) else settleAll env ev) := by
    split
    · exact evaluate_moves env Q _ hq
    · exact .refl
  exact (settleAll_moves env Q ev).trans (k.trans (Moves.res .joins))

/-- The report of the alarm list, once the mode is set and a test that it ends aborted, resolves every point (R17). -/
theorem listReport_moves (ev : Ev) :
    Moves env Q
      ((if ev.plant.mode = .test ∧ modeAfterReport ev.plant.mode env.alarms.isEmpty = .fire then abortTest ev
        else ev).setMode (modeAfterReport ev.plant.mode env.alarms.isEmpty))
      (listReport env ev) := by
  unfold listReport
  dsimp only
  exact (resolveAll_moves env Q false _).trans (reportIf_moves env Q _ _ _)

end Chains

end Sys2Proof.Machine
end

section
/-! SUPPORT. What one step does to the machine, said once: `step_acts` takes every step apart into a chain of the acts of
`Act`, each with the condition under which it is made. An invariant of the machine is then one proof by cases over the
acts (`step_keeps`). -/

namespace Sys2Proof.Machine

/-! ## The acts -/

/-- The events of the plant, with what holds of the machine `s` when one is run. -/
inductive PlantEvent (s : State) : (Env → Ev → Ev) → Prop
  | limitTimer (p : Point) (i : LimitInput) : PlantEvent s (limitTimerOut p i)
  | strokeTimer (p : Point) : PlantEvent s (strokeTimerOut p)
  | gateTimer (p : Point) : PlantEvent s (gateTimerOut p)
  | proofLimit (p : Point) : PlantEvent s (proofLimitOut p)
  | runDownTimer (p : Point) : PlantEvent s (runDownTimerOut p)
  | boundary (p : Point) : PlantEvent s (boundaryOut p)
  | driveTimer (p : Point) : PlantEvent s (driveTimerOut p)
  | spacing : PlantEvent s spacingOut
  | supfailTimer : PlantEvent s supfailTimerOut
  | settleTimer : PlantEvent s settleTimerOut
  | joining : PlantEvent s joiningReportTaken
  | feedback (p : Point) (i : LimitInput) (level : Level) : PlantEvent s (feedbackLine p i level)
  | edge (p : Point) : PlantEvent s (risingEdge p)
  | supfail (level : Level) : PlantEvent s (supfailLine level)
  | override (p : Point) (v : Override) (h : v ≠ .auto → s.store.kind p ≠ .unused) :
      PlantEvent s fun env ev => resolvePoint env false (setOverride p v ev) p
  | allAuto : PlantEvent s allOverridesAuto
  | clearFault (p : Point) (d : Damper) (h : (s.plant.chan p).unit = .damper d) :
      PlantEvent s fun env ev => putDamper env p (d.clearFault (env.store.point p)) ev
  | resetFan (p : Point) (f : Fan) (h : (s.plant.chan p).unit = .fan f) (hf : f.state = .fault) :
      PlantEvent s (resetFan p f)
  | setNormal (p : Point) (a : Action) (h : s.plant.mode ≠ .commission) : PlantEvent s (setNormal p a)
  | beginTest (first count : Nat) (h : s.plant.mode = .normal) (h0 : count ≠ 0) (h1 : first + count ≤ 64) :
      PlantEvent s (beginTest first count)
  | haltTest (h : s.plant.test.state = .running) : PlantEvent s haltTest
  | commission (h : s.plant.mode = .normal) :
      PlantEvent s fun env ev => resolveAll env false (ev.setMode .commission)
  | decommission (h : s.plant.mode = .commission) :
      PlantEvent s fun env ev => resolveAll env false (ev.setMode .normal)

/-- What an order makes of the alarm list (R13, R14, R16). -/
inductive ListOrder (s : State) : List AlarmEntry → Prop
  | port (z : Zone) (h : (s.zone z).isolated = false) : ListOrder s (portArrival z s.alarms)
  | firefighter (z : Zone) (h : (s.zone z).isolated = false) : ListOrder s (firefighterZone z s.alarms)
  | reset : ListOrder s (alarmReset s)

/-- One act of a step that neither begins nor ends a device reset. -/
inductive Act (s : State) : State → Prop
  | pending (q : List Instr) : Act s { s with pending := q }
  | ports (ps : Ports) : Act s { s with ports := ps }
  | draws (n : Nat) : Act s { s with plant := { s.plant with draws := n } }
  | count (h : s.held = false) : Act s s.countPasses
  | event {g : Env → Ev → Ev} (h : s.held = false) (hg : PlantEvent s g) : Act s (s.runEvent g)
  | zoneLine (z : Zone) (l : ZoneLine) (h : s.held = false) (hi : l.isolated = (s.zone z).isolated)
      (hf : l.filter.timer.isRunning = (l.raw != l.filter.filtered)) : Act s (zoneFilterTakes z l s)
  | list {l : List AlarmEntry} (h : s.held = false) (hl : ListOrder s l) : Act s (listBecomes l s)
  | isolate (z : Zone) (h : s.held = false) (hz : (s.zone z).isolated = false) :
      Act s
        (zonesFollow s { s.setZone z { s.zone z with isolated := true } with alarms := removeZone z s.alarms })
  | rejoin (z : Zone) (h : s.held = false) (hz : (s.zone z).isolated = true) :
      Act s
        (zonesFollow s
          { s.setZone z { s.zone z with isolated := false } with
            alarms := if s.active z then lineArrival (s.store.zone z).mode z s.alarms else s.alarms })
  | write (w : StoreWrite) (h : s.held = false) (hm : s.plant.mode = .commission) : Act s { s with write := some w }
  | writeDone (w : StoreWrite) (h : s.held = false) (hw : s.write = some w) : Act s (completeWrite w.target s)
  | heldZone (z : Zone) (level : Level) (h : s.held = true) : Act s (s.setZone z { s.zone z with raw := level })
  | heldFeedback (p : Point) (i : LimitInput) (level : Level) (h : s.held = true) :
      Act s (moveFeedbackLine p i level s)
  | heldSupfail (level : Level) (h : s.held = true) : Act s (moveSupfailLine level s)

/-- A chain of acts. -/
abbrev Acts : State → State → Prop := Relation.ReflTransGen Act

theorem Acts.one {s t : State} (h : Act s t) : Acts s t := .single h

/-- What every act keeps, a chain of acts keeps. -/
theorem Acts.keeps {P : State → Prop} (h : ∀ a b, Act a b → P a → P b) {s t : State} (m : Acts s t) : P s → P t := by
  induction m with
  | refl => exact id
  | tail _ u ih => exact fun x => h _ _ u (ih x)

theorem setPort_acts (s : State) (i : PortId) (r : PortRec) : Acts s (s.setPort i r) := .one (.ports _)

theorem event_acts {s : State} {g : Env → Ev → Ev} (h : s.held = false) (hg : PlantEvent s g) :
    Acts s (s.runEvent g) := .one (.event h hg)

/-! ## Orders -/

theorem acceptWrite_acts {s : State} (h : s.held = false) (tgt : WriteTarget) (o : Order) :
    Acts s (acceptWrite tgt o s).1 := by
  unfold acceptWrite
  split
  · rename_i hm; exact .one (.write _ h hm)
  · exact .refl

theorem orderWpcf_acts {s : State} (h : s.held = false) (i : PortId) (o : Order) : Acts s (orderWpcf i o s).1 := by
  unfold orderWpcf
  split
  · exact .refl
  · split
    · exact .refl
    · exact acceptWrite_acts h _ o

theorem orderWzcf_acts {s : State} (h : s.held = false) (i : PortId) (o : Order) : Acts s (orderWzcf i o s).1 := by
  unfold orderWzcf
  split
  · exact .refl
  · split
    · exact .refl
    · exact acceptWrite_acts h _ o

theorem orderWscn_acts {s : State} (h : s.held = false) (i : PortId) (o : Order) : Acts s (orderWscn i o s).1 := by
  unfold orderWscn
  split
  · exact acceptWrite_acts h _ o
  · exact .refl

theorem orderWdcf_acts {s : State} (h : s.held = false) (i : PortId) (o : Order) : Acts s (orderWdcf i o s).1 := by
  unfold orderWdcf
  split
  · exact .refl
  · exact acceptWrite_acts h _ o

theorem orderZalm_acts {s : State} (h : s.held = false) (i : PortId) (o : Order) : Acts s (orderZalm i o s).1 := by
  unfold orderZalm
  split
  · exact .refl
  · rename_i z _
    split
    · exact .refl
    · rename_i hz; exact .one (.list h (.port z (by simpa using hz)))

theorem orderFzon_acts {s : State} (h : s.held = false) (i : PortId) (o : Order) : Acts s (orderFzon i o s).1 := by
  unfold orderFzon
  split
  · exact .refl
  · rename_i z _
    split
    · exact .refl
    · rename_i hz; exact .one (.list h (.firefighter z (by simpa using hz)))

theorem orderArst_acts {s : State} (h : s.held = false) (i : PortId) (o : Order) : Acts s (orderArst i o s).1 := by
  have marked : Acts s { s with ports := s.ports.markAll [] (removedByReset s) } := .one (.ports _)
  exact marked.tail (.list h .reset)

theorem orderZiso_acts {s : State} (h : s.held = false) (i : PortId) (o : Order) : Acts s (orderZiso i o s).1 := by
  unfold orderZiso
  split
  · exact .refl
  · rename_i z _
    split
    · exact .refl
    · rename_i hz; exact .one (.isolate z h (by simpa using hz))

theorem orderZrin_acts {s : State} (h : s.held = false) (i : PortId) (o : Order) : Acts s (orderZrin i o s).1 := by
  unfold orderZrin
  split
  · exact .refl
  · rename_i z _
    split
    · rename_i hz; exact .one (.rejoin z h hz)
    · exact .refl

theorem orderOvrd_acts {s : State} (h : s.held = false) (i : PortId) (o : Order) : Acts s (orderOvrd i o s).1 := by
  unfold orderOvrd
  split
  · rename_i p v _ _
    split
    · exact .refl
    · rename_i hu
      have k : Acts s (s.runEvent fun env ev => resolvePoint env false (setOverride p v ev) p) :=
        event_acts h (.override p v fun hv hk => hu ⟨hv, hk⟩)
      split
      · exact .refl
      · exact k
  · exact .refl

theorem orderEqrs_acts {s : State} (h : s.held = false) (i : PortId) (o : Order) : Acts s (orderEqrs i o s).1 := by
  unfold orderEqrs
  split
  · exact .refl
  · rename_i p _
    split
    · exact .refl
    · rename_i d hd
      have k : Acts s (s.runEvent fun env ev => putDamper env p (d.clearFault (env.store.point p)) ev) :=
        event_acts h (.clearFault p d hd)
      split
      · exact .refl
      · exact k
    · rename_i f hf
      split
      · rename_i hs; exact event_acts h (.resetFan _ f hf hs)
      · exact .refl

theorem orderNdem_acts {s : State} (h : s.held = false) (i : PortId) (o : Order) : Acts s (orderNdem i o s).1 := by
  unfold orderNdem
  split
  · split
    · exact .refl
    · rename_i hm
      split
      · exact .refl
      · exact event_acts h (.setNormal _ _ hm)
  · exact .refl

theorem orderPtst_acts {s : State} (h : s.held = false) (i : PortId) (o : Order) : Acts s (orderPtst i o s).1 := by
  unfold orderPtst
  dsimp only
  split
  · exact .refl
  · rename_i hr
    split
    · exact .refl
    · rename_i hm
      exact event_acts h (.beginTest _ _ (by simpa using hm) (by omega) (by omega))

theorem orderPthl_acts {s : State} (h : s.held = false) (i : PortId) (o : Order) : Acts s (orderPthl i o s).1 := by
  unfold orderPthl
  split
  · rename_i hr; exact event_acts h (.haltTest hr)
  · exact .refl

theorem orderCmen_acts {s : State} (h : s.held = false) (i : PortId) (o : Order) : Acts s (orderCmen i o s).1 := by
  unfold orderCmen
  split
  · rename_i hm
    have k : Acts s (s.runEvent fun env ev => resolveAll env false (ev.setMode .commission)) :=
      event_acts h (.commission hm)
    exact k
  · exact .refl

theorem orderCmlv_acts {s : State} (h : s.held = false) (i : PortId) (o : Order) : Acts s (orderCmlv i o s).1 := by
  unfold orderCmlv
  split
  · rename_i hm
    have k : Acts s (s.runEvent fun env ev => resolveAll env false (ev.setMode .normal)) :=
      event_acts h (.decommission hm)
    exact k
  · exact .refl

/-- A query answers and changes nothing. -/
theorem orderQsys_state (i : PortId) (o : Order) (s : State) : (orderQsys i o s).1 = s := by
  unfold orderQsys; split <;> rfl
theorem orderQalm_state (i : PortId) (o : Order) (s : State) : (orderQalm i o s).1 = s := by
  unfold orderQalm; split
  · rfl
  · split <;> rfl
theorem orderQzon_state (i : PortId) (o : Order) (s : State) : (orderQzon i o s).1 = s := by
  unfold orderQzon; split <;> rfl
theorem pointPage0_state (c : PointCfg) (ch : Channel) (s : State) : (pointPage0 c ch s).1 = s := by
  unfold pointPage0; dsimp only; split <;> rfl
theorem pointPage1_state (ch : Channel) (s : State) : (pointPage1 ch s).1 = s := by
  unfold pointPage1; split <;> rfl
theorem pointPage2_state (n : Nat) (ch : Channel) (s : State) : (pointPage2 n ch s).1 = s := by
  unfold pointPage2; split <;> rfl
theorem orderQpnt_state (i : PortId) (o : Order) (s : State) : (orderQpnt i o s).1 = s := by
  unfold orderQpnt
  split
  · rfl
  · split
    · exact pointPage0_state ..
    · exact pointPage1_state ..
    · split
      · rfl
      · exact pointPage2_state ..
    · rfl
theorem orderPtrd_state (i : PortId) (o : Order) (s : State) : (orderPtrd i o s).1 = s := by
  unfold orderPtrd; dsimp only; split
  · rfl
  · split <;> rfl
theorem orderRpcf_state (i : PortId) (o : Order) (s : State) : (orderRpcf i o s).1 = s := by
  unfold orderRpcf; split
  · rfl
  · split <;> rfl
theorem orderRzcf_state (i : PortId) (o : Order) (s : State) : (orderRzcf i o s).1 = s := by
  unfold orderRzcf; split
  · rfl
  · split <;> rfl
theorem orderRscn_state (i : PortId) (o : Order) (s : State) : (orderRscn i o s).1 = s := by
  unfold orderRscn; split <;> rfl
theorem orderRdcf_state (i : PortId) (o : Order) (s : State) : (orderRdcf i o s).1 = s := by
  unfold orderRdcf; split <;> rfl

theorem orderNxch_acts (s : State) (i : PortId) (o : Order) : Acts s (orderNxch i o s).1 := by
  unfold orderNxch
  dsimp only
  split
  · exact setPort_acts ..
  · exact setPort_acts ..
  · exact .refl

theorem acts_of_eq {s t : State} (h : t = s) : Acts s t := h ▸ .refl

/-- Every order is a chain of acts. -/
theorem runOrder_acts {s : State} (h : s.held = false) (k : OrderKind) (i : PortId) (o : Order) :
    Acts s (runOrder k i o s).1 := by
  cases k with
  | qsys => exact acts_of_eq (orderQsys_state i o s)
  | qalm => exact acts_of_eq (orderQalm_state i o s)
  | qzon => exact acts_of_eq (orderQzon_state i o s)
  | qpnt => exact acts_of_eq (orderQpnt_state i o s)
  | nxch => exact orderNxch_acts s i o
  | zalm => exact orderZalm_acts h i o
  | arst => exact orderArst_acts h i o
  | ziso => exact orderZiso_acts h i o
  | zrin => exact orderZrin_acts h i o
  | ovrd => exact orderOvrd_acts h i o
  | oval => exact event_acts h .allAuto
  | fzon => exact orderFzon_acts h i o
  | eqrs => exact orderEqrs_acts h i o
  | ndem => exact orderNdem_acts h i o
  | ptst => exact orderPtst_acts h i o
  | pthl => exact orderPthl_acts h i o
  | ptrd => exact acts_of_eq (orderPtrd_state i o s)
  | cmen => exact orderCmen_acts h i o
  | cmlv => exact orderCmlv_acts h i o
  | wpcf => exact orderWpcf_acts h i o
  | wzcf => exact orderWzcf_acts h i o
  | wscn => exact orderWscn_acts h i o
  | wdcf => exact orderWdcf_acts h i o
  | rpcf => exact acts_of_eq (orderRpcf_state i o s)
  | rzcf => exact acts_of_eq (orderRzcf_state i o s)
  | rscn => exact acts_of_eq (orderRscn_state i o s)
  | rdcf => exact acts_of_eq (orderRdcf_state i o s)

theorem decodeOrder_acts {s : State} (h : s.held = false) (i : PortId) (o : Order) :
    Acts s (decodeOrder i o s).1 := by
  unfold decodeOrder
  split
  · exact .refl
  · split
    · exact runOrder_acts h _ i o
    · exact .refl

/-! ## The holding of the machine -/

/-- Only a reset begins or ends the holding of the machine. -/
theorem zonesFollow_held (s t : State) : (zonesFollow s t).held = t.held := by
  unfold zonesFollow; dsimp only; split <;> rfl

theorem activityEvent_held (b : Bool) (z : Zone) (s : State) : (activityEvent b z s).held = s.held := by
  unfold activityEvent; split
  · rfl
  · split <;> rfl

theorem completeWrite_held (w : WriteTarget) (s : State) : (completeWrite w s).held = s.held := by
  unfold completeWrite writeTakesEffect
  split
  · rfl
  · rw [zonesFollow_held, activityEvent_held]
  · rfl
  · split <;> rfl

/-- No act begins or ends the holding of the machine. -/
theorem Act.held_eq {s t : State} (a : Act s t) : t.held = s.held := by
  cases a with
  | count => exact State.countPasses_held s
  | zoneLine z l => rw [zoneFilterTakes, zonesFollow_held, activityEvent_held]; rfl
  | list => rw [listBecomes, zonesFollow_held]
  | isolate => rw [zonesFollow_held]; rfl
  | rejoin => rw [zonesFollow_held]; rfl
  | writeDone => exact completeWrite_held _ s
  | _ => rfl

theorem Acts.held_eq {s t : State} (m : Acts s t) : t.held = s.held :=
  m.keeps (P := fun x => x.held = s.held) (fun _ _ a h => a.held_eq.trans h) rfl

/-! ## Strobes -/

theorem takeOrder_acts {s : State} (h : s.held = false) (i : PortId) (o : Order) : Acts s (takeOrder i o s) := by
  have k : Acts s (decodeOrder i o (s.setPort i ((s.port i).take o))).1 :=
    (setPort_acts s i _).trans (decodeOrder_acts (s := s.setPort i _) h i o)
  unfold takeOrder
  split <;> rename_i e <;> rw [e] at k
  · exact k.trans (setPort_acts ..)
  · exact k

theorem takeIfReady_acts {s : State} (h : s.held = false) (i : PortId) : Acts s (takeIfReady i s) := by
  unfold takeIfReady
  split
  · split
    · exact takeOrder_acts h ..
    · exact .refl
  · exact .refl

theorem writeByte_acts {s : State} (h : s.held = false) (i : PortId) (x : Byte) : Acts s (writeByte i x s) := by
  rw [writeByte_eq]
  split
  · exact setPort_acts ..
  · exact (setPort_acts s i _).trans (takeIfReady_acts (s := s.setPort i _) h i)

theorem readByte_acts {s : State} (h : s.held = false) (i : PortId) : Acts s (readByte i s) := by
  rw [readByte_eq]
  split
  · exact setPort_acts ..
  · exact (setPort_acts s i _).trans (takeIfReady_acts (s := s.setPort i _) h i)

theorem selReleased_acts (s : State) (i : PortId) : Acts s (selReleased i s) := by
  unfold selReleased
  dsimp only
  split
  · exact .refl
  · exact setPort_acts ..

/-- An order's four strobes. -/
theorem deliverOrder_acts {s : State} (h : s.held = false) (i : PortId) (o : Order) :
    Acts s (deliverOrder i o s) := by
  have next {t : State} (m : Acts s t) (x : Byte) : Acts s (writeByte i x t) :=
    m.trans (writeByte_acts (m.held_eq.trans h) i x)
  exact next (next (next (next .refl _) _) _) _

/-! ## Commands and steps -/

/-- What device reset keeps from happening is a chain of acts if it is one when it happens. -/
theorem unlessHeld_acts {s : State} {g : State → State} (h : s.held = false → Acts s (g s)) :
    Acts s (s.unlessHeld g) := by
  unfold State.unlessHeld
  split
  · exact .refl
  · rename_i hh; exact h (by simpa using hh)

theorem timerEvent_acts {s : State} {g : Env → Ev → Ev} (hg : PlantEvent s g) :
    Acts s (s.unlessHeld (State.runEvent g)) := unlessHeld_acts fun h => event_acts h hg

theorem strobed_acts {s : State} {g : State → State} (sel : Bool) (h : s.held = false → Acts s (g s)) :
    Acts s (s.unlessHeld (strobed sel g)) :=
  unlessHeld_acts fun hh => by
    unfold strobed
    split
    · exact h hh
    · exact .refl

theorem feedbackChange_acts (p : Point) (i : LimitInput) (level : Level) (s : State) :
    Acts s (feedbackChange p i level s) := by
  unfold feedbackChange
  split
  · rename_i h; exact .one (.heldFeedback p i level h)
  · rename_i h; exact event_acts (by simpa using h) (.feedback p i level)

theorem edgeChange_acts (p : Point) (s : State) : Acts s (edgeChange p s) := by
  unfold edgeChange
  split
  · rename_i h; exact .one (.heldFeedback p .fba .high h)
  · rename_i h; exact event_acts (by simpa using h) (.edge p)

theorem supfailChange_acts (level : Level) (s : State) : Acts s (supfailChange level s) := by
  unfold supfailChange
  split
  · rename_i h; exact .one (.heldSupfail level h)
  · rename_i h; exact event_acts (by simpa using h) (.supfail level)

/-- After a raw change the filter is PENDING exactly while its levels differ (Table 1-3). -/
theorem Filter.rawChange_pending (n : Nat) (raw : Level) (f : Filter) :
    (f.rawChange n raw).timer.isRunning = (raw != (f.rawChange n raw).filtered) := by
  rw [Filter.rawChange_eq]
  by_cases h : raw = f.filtered
  · simp [h]
  · by_cases hn : n = 0 <;> simp [h, hn]

theorem zoneRawChange_acts (z : Zone) (level : Level) (s : State) : Acts s (zoneRawChange z level s) := by
  unfold zoneRawChange
  dsimp only
  split
  · exact .refl
  · split
    · rename_i h; exact .one (.heldZone z level h)
    · rename_i h; exact .one (.zoneLine z _ (by simpa using h) rfl (Filter.rawChange_pending ..))

theorem zoneTimerOut_acts (z : Zone) {s : State} (h : s.held = false) : Acts s (zoneTimerOut z s) := by
  unfold zoneTimerOut
  dsimp only
  split
  · exact .one (.zoneLine z _ h rfl (by simp))
  · exact .refl

theorem storeWriteDone_acts {s : State} (h : s.held = false) : Acts s (storeWriteDone s) := by
  unfold storeWriteDone
  split
  · exact .refl
  · rename_i w hw
    have k : Acts s (completeWrite w.target s) := .one (.writeDone w h hw)
    dsimp only
    split
    · exact k
    · exact k.trans (setPort_acts ..)

/-- A command is a chain of acts, or the end or the beginning of a device reset. -/
theorem exec_acts {c : Instr} {s t : State} (e : exec c s = .next t) :
    Acts s t ∨ t = deviceResetEnds s ∨ t = deviceResetBegins s := by
  cases c with
  | deviceReset => exact .inr (.inl (Host.Outcome.next.inj e).symm)
  | deviceResetHeld => exact .inr (.inr (Host.Outcome.next.inj e).symm)
  | zoneRawLevelChange z level => exact .inl (Host.Outcome.next.inj e ▸ zoneRawChange_acts z level s)
  | zoneFilterTimerRunsOut z => exact .inl (Host.Outcome.next.inj e ▸ unlessHeld_acts (zoneTimerOut_acts z))
  | limitRawLevelChange p i level => exact .inl (Host.Outcome.next.inj e ▸ feedbackChange_acts p i level s)
  | limitFilterTimerRunsOut p i => exact .inl (Host.Outcome.next.inj e ▸ timerEvent_acts (.limitTimer p i))
  | strokeTimerRunsOut p => exact .inl (Host.Outcome.next.inj e ▸ timerEvent_acts (.strokeTimer p))
  | fbaRisingEdge p => exact .inl (Host.Outcome.next.inj e ▸ edgeChange_acts p s)
  | gateTimerRunsOut p => exact .inl (Host.Outcome.next.inj e ▸ timerEvent_acts (.gateTimer p))
  | proofLimitTimerRunsOut p => exact .inl (Host.Outcome.next.inj e ▸ timerEvent_acts (.proofLimit p))
  | runDownTimerRunsOut p => exact .inl (Host.Outcome.next.inj e ▸ timerEvent_acts (.runDownTimer p))
  | periodBoundary p => exact .inl (Host.Outcome.next.inj e ▸ timerEvent_acts (.boundary p))
  | fbbRawLevelChange p level => exact .inl (Host.Outcome.next.inj e ▸ feedbackChange_acts p .fbb level s)
  | fbbFilterTimerRunsOut p => exact .inl (Host.Outcome.next.inj e ▸ timerEvent_acts (.driveTimer p))
  | spacingTimerRunsOut => exact .inl (Host.Outcome.next.inj e ▸ timerEvent_acts .spacing)
  | supfailRawLevelChange level => exact .inl (Host.Outcome.next.inj e ▸ supfailChange_acts level s)
  | supfailFilterTimerRunsOut => exact .inl (Host.Outcome.next.inj e ▸ timerEvent_acts .supfailTimer)
  | settleTimerRunsOut => exact .inl (Host.Outcome.next.inj e ▸ timerEvent_acts .settleTimer)
  | storeWriteCompletes => exact .inl (Host.Outcome.next.inj e ▸ unlessHeld_acts storeWriteDone_acts)
  | joiningReport => exact .inl (Host.Outcome.next.inj e ▸ timerEvent_acts .joining)
  | wrStrobeEnd i sel x => exact .inl (Host.Outcome.next.inj e ▸ strobed_acts sel fun h => writeByte_acts h i x)
  | selInactive i => exact .inl (Host.Outcome.next.inj e ▸ unlessHeld_acts fun _ => selReleased_acts s i)
  | rdStrobe i sel => exact .inl (Host.Outcome.next.inj e ▸ strobed_acts sel fun h => readByte_acts h i)
  | _ => exact .inl (Host.Outcome.next.inj e ▸ unlessHeld_acts fun h => deliverOrder_acts h _ _)

/-- What an empty queue brings is a chain of acts. -/
theorem idleStep_acts (s : State) : Acts s s.idleStep := by
  rcases State.idleStep_cases s with ⟨e, -⟩ | ⟨c, -, -, e⟩ | ⟨-, h, -, e⟩
  · exact acts_of_eq e
  · rw [e]
    have k : Acts s { s with plant := { s.plant with draws := s.plant.draws + 1 } } := .one (.draws _)
    exact k.tail (.pending [c])
  · rw [e]
    exact .one (.count h)

/-- WHAT A STEP DOES: a chain of acts, or, of a command taken from the queue, the end or the beginning of a device
reset. -/
theorem step_acts {s t : State} (e : step s = .next t) :
    Acts s t ∨ ∃ q, t = deviceResetEnds { s with pending := q } ∨ t = deviceResetBegins { s with pending := q } := by
  unfold step at e
  split at e
  · exact .inl (Host.Outcome.next.inj e ▸ idleStep_acts s)
  · rename_i c rest _
    rcases exec_acts e with m | m
    · exact .inl ((Acts.one (.pending rest)).trans m)
    · exact .inr ⟨rest, m⟩

/-- An invariant of the machine: every act keeps it, and so do the end and the beginning of a device reset. -/
theorem step_keeps {P : State → Prop} (acts : ∀ a b, Act a b → P a → P b)
    (ends : ∀ s, P s → P (deviceResetEnds s)) (begins : ∀ s, P s → P (deviceResetBegins s)) {s t : State} (h : P s)
    (e : step s = .next t) : P t := by
  rcases step_acts e with m | ⟨q, rfl | rfl⟩
  · exact m.keeps acts h
  · exact ends _ (acts _ _ (.pending q) h)
  · exact begins _ (acts _ _ (.pending q) h)

end Sys2Proof.Machine
end

section
/-! SUPPORT. The zone lines and the alarm list: which zones each list event leaves in the list, what the end of an event
at the zones (`zonesFollow`) leaves as it was, and the statements about lists and raw levels. -/

namespace Sys2Proof.Machine

/-! ## The end of an event at the zones -/

@[simp] theorem zonesFollow_alarms (s t : State) : (zonesFollow s t).alarms = t.alarms := by
  unfold zonesFollow; dsimp only; split <;> rfl
@[simp] theorem zonesFollow_zones (s t : State) : (zonesFollow s t).zones = t.zones := by
  unfold zonesFollow; dsimp only; split <;> rfl
@[simp] theorem zonesFollow_store (s t : State) : (zonesFollow s t).store = t.store := by
  unfold zonesFollow; dsimp only; split <;> rfl
@[simp] theorem zonesFollow_write (s t : State) : (zonesFollow s t).write = t.write := by
  unfold zonesFollow; dsimp only; split <;> rfl
@[simp] theorem zonesFollow_pending (s t : State) : (zonesFollow s t).pending = t.pending := by
  unfold zonesFollow; dsimp only; split <;> rfl
@[simp] theorem zonesFollow_zone (s t : State) (z : Zone) : (zonesFollow s t).zone z = t.zone z := by
  simp only [State.zone, zonesFollow_zones]
@[simp] theorem zonesFollow_active (s t : State) (z : Zone) : (zonesFollow s t).active z = t.active z := by
  simp only [State.active, zonesFollow_store, zonesFollow_zone]

/-- An unchanged list brings no event of the plant. -/
theorem zonesFollow_of_list_eq {s t : State} (h : s.alarms = t.alarms) :
    zonesFollow s t = { t with ports := t.ports.markAll [] (changedZones s t) } := by
  simp [zonesFollow, h]

/-- A changed list is reported. -/
theorem zonesFollow_of_list_ne {s t : State} (h : s.alarms ≠ t.alarms) :
    zonesFollow s t =
      State.runEvent listReport { t with ports := t.ports.markAll [] (changedZones s t) } := by
  simp [zonesFollow, h]

/-- An event that changes nothing that R18 names ends with nothing marked. -/
theorem zonesFollow_of_unchanged {s t : State} (hl : s.alarms = t.alarms)
    (hz : ∀ z, zoneChanged s t z = false) : zonesFollow s t = t := by
  have e : changedZones s t = [] := by simp [changedZones, hz]
  rw [zonesFollow_of_list_eq hl, e, Ports.markAll_nil]

/-- The changed zones are read off the activities, the isolation flags and the list. -/
theorem zoneChanged_congr {s s' t : State} {z : Zone} (ha : s.active z = s'.active z)
    (hi : (s.zone z).isolated = (s'.zone z).isolated) (hl : s.alarms = s'.alarms) :
    zoneChanged s t z = zoneChanged s' t z := by
  simp only [zoneChanged, ha, hi, hl]

/-- The list and the isolation flags after the line event that a changed activity brings. -/
theorem activityEvent_alarms (was : Bool) (z : Zone) (s : State) :
    (activityEvent was z s).alarms =
      if (s.zone z).isolated = true ∨ was = s.active z then s.alarms
      else if s.active z then lineArrival (s.store.zone z).mode z s.alarms
      else lineClear z s.alarms := by
  unfold activityEvent
  simp only [Bool.or_eq_true, beq_iff_eq]
  split
  · rfl
  · split <;> rfl

/-- A line event changes the list and nothing else. -/
theorem activityEvent_eq (was : Bool) (z : Zone) (s : State) :
    activityEvent was z s = { s with alarms := (activityEvent was z s).alarms } := by
  unfold activityEvent
  split
  · rfl
  · split <;> rfl

@[simp] theorem activityEvent_zone (was : Bool) (z y : Zone) (s : State) :
    (activityEvent was z s).zone y = s.zone y := by rw [activityEvent_eq]; rfl
@[simp] theorem activityEvent_zones (was : Bool) (z : Zone) (s : State) :
    (activityEvent was z s).zones = s.zones := by rw [activityEvent_eq]
@[simp] theorem activityEvent_store (was : Bool) (z : Zone) (s : State) :
    (activityEvent was z s).store = s.store := by rw [activityEvent_eq]
@[simp] theorem activityEvent_plant (was : Bool) (z : Zone) (s : State) :
    (activityEvent was z s).plant = s.plant := by rw [activityEvent_eq]
@[simp] theorem activityEvent_ports (was : Bool) (z : Zone) (s : State) :
    (activityEvent was z s).ports = s.ports := by rw [activityEvent_eq]
@[simp] theorem activityEvent_write (was : Bool) (z : Zone) (s : State) :
    (activityEvent was z s).write = s.write := by rw [activityEvent_eq]
@[simp] theorem activityEvent_pending (was : Bool) (z : Zone) (s : State) :
    (activityEvent was z s).pending = s.pending := by rw [activityEvent_eq]
@[simp] theorem activityEvent_active (was : Bool) (z y : Zone) (s : State) :
    (activityEvent was z s).active y = s.active y := by simp [State.active]

/-- An activity that has not changed brings no line event. -/
theorem activityEvent_same (z : Zone) (s : State) : activityEvent (s.active z) z s = s := by
  simp [activityEvent]

/-! ## Lines after a count and after reset -/

theorem State.countPasses_zone (s : State) (z : Zone) :
    s.countPasses.zone z = { s.zone z with filter := (s.zone z).filter.tick } :=
  foldl_set_getElem (fun _ (l : ZoneLine) => { l with filter := l.filter.tick }) s.zones z

theorem resetZones_getElem (v : Vector ZoneLine 32) (z : Zone) : (resetZones v)[z] = (v[z]).afterReset :=
  foldl_set_getElem (fun _ (l : ZoneLine) => l.afterReset) v z

/-- The list rebuilt at device reset: an entry for each active zone, in ascending number (R20). -/
theorem rebuiltList_eq (s : State) :
    rebuiltList s =
      (allZones.filter s.active).map fun z =>
        { zone := z, origin := .line, latched := (s.store.zone z).mode == .latch } := by
  have key : ∀ (zs : List Zone) (l : List AlarmEntry), zs.foldl (rebuildOne s) l =
      l ++ (zs.filter s.active).map fun z =>
        { zone := z, origin := .line, latched := (s.store.zone z).mode == .latch } := by
    intro zs
    induction zs with
    | nil => simp
    | cons z zs ih =>
      intro l
      rw [List.foldl_cons, ih]
      by_cases h : s.active z = true <;> simp [rebuildOne, h]
  exact key allZones []

/-- The machine at the end of a device reset with its zone lines in their after-reset state. -/
def State.linesReset (s : State) : State :=
  { endWriteByReset s with held := false, periodEnds := [], zones := resetZones (endWriteByReset s).zones }

/-- Then with the list rebuilt and the plant in its after-reset state, before the resolver hands its demands. -/
def State.blocksReset (s : State) : State :=
  { s.linesReset with
    alarms := rebuiltList s.linesReset
    plant := s.linesReset.plant.atReset s.linesReset.store (!(rebuiltList s.linesReset).isEmpty) }

/-- The end of a device reset: the blocks in their after-reset state, the hand-over, and the port records. -/
theorem deviceResetEnds_eq (s : State) :
    deviceResetEnds s =
      { s.blocksReset.runEvent (fun env ev => resolveAll env true ev) with
        ports := .afterReset s.blocksReset.store } := rfl

theorem endWriteByReset_zones (s : State) : (endWriteByReset s).zones = s.zones := by
  unfold endWriteByReset; split <;> rfl

theorem State.linesReset_zone (s : State) (z : Zone) : s.linesReset.zone z = (s.zone z).afterReset := by
  show (resetZones (endWriteByReset s).zones)[z] = _
  rw [resetZones_getElem, endWriteByReset_zones]
  rfl

theorem State.blocksReset_zones (s : State) : s.blocksReset.zones = s.linesReset.zones := by rw [State.blocksReset]

theorem State.blocksReset_store (s : State) : s.blocksReset.store = s.linesReset.store := by rw [State.blocksReset]

theorem State.blocksReset_active (s : State) : s.blocksReset.active = s.linesReset.active := by
  funext z
  simp only [State.active, State.zone, State.blocksReset_zones, State.blocksReset_store]

theorem State.blocksReset_zone (s : State) (z : Zone) : s.blocksReset.zone z = (s.zone z).afterReset := by
  rw [← State.linesReset_zone, State.zone, State.blocksReset_zones]; rfl

theorem State.blocksReset_alarms (s : State) :
    s.blocksReset.alarms =
      (allZones.filter s.blocksReset.active).map fun z =>
        { zone := z, origin := .line, latched := (s.blocksReset.store.zone z).mode == .latch } := by
  rw [State.blocksReset_active, State.blocksReset_store, ← rebuiltList_eq, State.blocksReset]

theorem deviceResetEnds_zones (s : State) : (deviceResetEnds s).zones = s.blocksReset.zones := by
  rw [deviceResetEnds_eq, State.runEvent_zones]

theorem deviceResetEnds_zone (s : State) (z : Zone) : (deviceResetEnds s).zone z = s.blocksReset.zone z := by
  simp only [State.zone, deviceResetEnds_zones]

theorem deviceResetEnds_alarms (s : State) : (deviceResetEnds s).alarms = s.blocksReset.alarms := by
  rw [deviceResetEnds_eq, State.runEvent_alarms]

theorem deviceResetEnds_store (s : State) : (deviceResetEnds s).store = s.blocksReset.store := by
  rw [deviceResetEnds_eq, State.runEvent_store]

theorem deviceResetEnds_plant (s : State) :
    (deviceResetEnds s).plant = (s.blocksReset.runEvent fun env ev => resolveAll env true ev).plant := by
  rw [deviceResetEnds_eq]

/-! ## The zones of the list (R9) -/

/-- A list of zones that holds no zone twice and none that `iso` names. -/
def ZonesFit (iso : Zone → Bool) (zs : List Zone) : Prop := zs.Nodup ∧ ∀ z ∈ zs, iso z = false

theorem ZonesFit.sublist {iso : Zone → Bool} {zs ys : List Zone} (h : ZonesFit iso zs) (k : ys.Sublist zs) :
    ZonesFit iso ys := ⟨h.1.sublist k, fun z hz => h.2 z (k.subset hz)⟩

/-- A zone that is not isolated joins at the end, unless it is there. -/
theorem ZonesFit.arrival {iso : Zone → Bool} {zs : List Zone} {z : Zone} (h : ZonesFit iso zs) (hz : iso z = false) :
    ZonesFit iso (if z ∈ zs then zs else zs ++ [z]) := by
  split
  · exact h
  · rename_i hn
    refine ⟨List.nodup_append.mpr ⟨h.1, List.nodup_singleton z, fun a ha b hb => ?_⟩, fun y hy => ?_⟩
    · rintro rfl
      exact hn (List.mem_singleton.mp hb ▸ ha)
    · rcases List.mem_append.mp hy with hy | hy
      · exact h.2 y hy
      · rw [List.mem_singleton.mp hy, hz]

/-- The list is sound when its zones are. -/
theorem listSound_iff (s : State) :
    s.ListSound ↔ ZonesFit (fun z => (s.zone z).isolated) (s.alarms.map AlarmEntry.zone) := by
  simp [State.ListSound, ZonesFit]

/-- The zone that a firefighter order puts first stands once. -/
theorem firefighterZone_zones (z : Zone) (l : List AlarmEntry) :
    (firefighterZone z l).map AlarmEntry.zone = z :: (removeZone z l).map AlarmEntry.zone := by
  unfold firefighterZone entryOf
  split
  · rename_i e he
    have := List.find?_some he
    simp_all
  · rename_i he
    have hn : ∀ x ∈ l, x.zone ≠ z := by simpa using he
    have e : removeZone z l = l := List.filter_eq_self.mpr (by simpa using hn)
    simp [e]

theorem removeZone_zones (z : Zone) (l : List AlarmEntry) :
    (removeZone z l).map AlarmEntry.zone = (l.map AlarmEntry.zone).filter (· != z) := by
  simp [removeZone, List.filter_map, Function.comp_def]

theorem ZonesFit.firefighter {iso : Zone → Bool} {z : Zone} {l : List AlarmEntry}
    (h : ZonesFit iso (l.map AlarmEntry.zone)) (hz : iso z = false) :
    ZonesFit iso ((firefighterZone z l).map AlarmEntry.zone) := by
  have k := h.sublist ((removeZone_sublist z l).map AlarmEntry.zone)
  rw [firefighterZone_zones]
  refine ⟨List.nodup_cons.mpr ⟨by simp [removeZone], k.1⟩, fun y hy => ?_⟩
  rcases List.mem_cons.mp hy with rfl | hy
  · exact hz
  · exact k.2 y hy

/-- The second step of an alarm reset lets zones that are not isolated arrive (R16). -/
theorem ZonesFit.realarm {s : State} (zs : List Zone) {l : List AlarmEntry}
    (h : ZonesFit (fun z => (s.zone z).isolated) (l.map AlarmEntry.zone)) :
    ZonesFit (fun z => (s.zone z).isolated) ((zs.foldl (realarm s) l).map AlarmEntry.zone) := by
  induction zs generalizing l with
  | nil => exact h
  | cons z zs ih =>
    refine ih ?_
    unfold Machine.realarm
    split
    · rename_i hz
      rw [lineArrival_zones]
      exact h.arrival (by simp at hz; exact hz.1.1)
    · exact h

theorem ZonesFit.listOrder {s : State} {l : List AlarmEntry} (h : s.ListSound) (o : ListOrder s l) :
    ZonesFit (fun z => (s.zone z).isolated) (l.map AlarmEntry.zone) := by
  rw [listSound_iff] at h
  cases o with
  | port z hz => rw [portArrival_zones]; exact h.arrival hz
  | firefighter z hz => exact h.firefighter hz
  | reset => exact ZonesFit.realarm _ (h.sublist (List.filter_sublist.map _))

/-- A line event keeps the list sound: only a zone that is not isolated joins. -/
theorem ZonesFit.activityEvent {iso : Zone → Bool} {was : Bool} {z : Zone} {s : State}
    (h : ZonesFit iso (s.alarms.map AlarmEntry.zone)) (hi : iso z = (s.zone z).isolated) :
    ZonesFit iso ((activityEvent was z s).alarms.map AlarmEntry.zone) := by
  rw [activityEvent_alarms]
  split
  · exact h
  · rename_i hn
    split
    · rw [lineArrival_zones]
      exact h.arrival (by rw [hi]; simpa using fun e => hn (.inl e))
    · exact h.sublist ((lineClear_sublist z s.alarms).map _)

/-- A completed write's list and zones: a zone record's write may bring a line event, and no other write touches the
list. -/
theorem completeWrite_alarms (w : WriteTarget) (s : State) :
    (completeWrite w s).alarms =
      match w with
      | .zone z _ _ => (activityEvent (s.active z) z { s with store := w.apply s.store, write := none }).alarms
      | _ => s.alarms := by
  unfold completeWrite writeTakesEffect
  cases w with
  | point p field v => rfl
  | zone z field v => exact zonesFollow_alarms ..
  | scenario z p e => rfl
  | device field v => dsimp only; split <;> rfl

theorem completeWrite_zones (w : WriteTarget) (s : State) : (completeWrite w s).zones = s.zones := by
  unfold completeWrite writeTakesEffect
  cases w with
  | point p field v => rfl
  | zone z field v => dsimp only; rw [zonesFollow_zones, activityEvent_zones]
  | scenario z p e => rfl
  | device field v => dsimp only; split <;> rfl

theorem completeWrite_zone (w : WriteTarget) (s : State) (z : Zone) : (completeWrite w s).zone z = s.zone z := by
  simp only [State.zone, completeWrite_zones]

/-- Every act keeps the alarm list sound. -/
theorem Act.keeps_listSound {s t : State} (a : Act s t) (h : s.ListSound) : t.ListSound := by
  have hs := (listSound_iff s).mp h
  rw [listSound_iff]
  cases a with
  | count => simpa only [State.countPasses_zone, State.countPasses_alarms] using hs
  | zoneLine z l _ hi _ =>
    have iso : ∀ y, ((s.setZone z l).zone y).isolated = (s.zone y).isolated := by
      intro y
      by_cases e : y = z
      · subst e; simpa using hi
      · rw [State.zone_setZone_ne s l e]
    simp only [zoneFilterTakes, zonesFollow_alarms, zonesFollow_zone, activityEvent_zone, iso]
    exact ZonesFit.activityEvent (s := s.setZone z l) hs (iso z).symm
  | list _ hl => 
    simp only [listBecomes, zonesFollow_alarms, zonesFollow_zone]
    exact ZonesFit.listOrder (s := s) h hl
  | isolate z _ hz =>
    have k := hs.sublist ((removeZone_sublist z s.alarms).map _)
    simp only [zonesFollow_alarms, zonesFollow_zone]
    refine ⟨k.1, fun y hy => ?_⟩
    have e : y ≠ z := by
      rintro rfl
      rw [removeZone_zones] at hy
      simp at hy
    exact (congrArg ZoneLine.isolated (State.zone_setZone_ne s _ e)).trans (k.2 y hy)
  | rejoin z _ hz =>
    have iso : ∀ y, (s.zone y).isolated = false → ((s.setZone z { s.zone z with isolated := false }).zone y).isolated =
        false := by
      intro y hy
      by_cases e : y = z
      · subst e; simp
      · rw [State.zone_setZone_ne s _ e]; exact hy
    have hs' : ZonesFit (fun y => ((s.setZone z { s.zone z with isolated := false }).zone y).isolated)
        (s.alarms.map AlarmEntry.zone) := ⟨hs.1, fun y hy => iso y (hs.2 y hy)⟩
    simp only [zonesFollow_alarms, zonesFollow_zone]
    split
    · rw [lineArrival_zones]
      exact hs'.arrival (by simp)
    · exact hs'
  | writeDone w _ hw =>
    simp only [completeWrite_zone, completeWrite_alarms]
    split
    · exact ZonesFit.activityEvent (s := { s with store := _, write := none }) hs rfl
    · exact hs
  | heldZone z level _ =>
    have iso : ∀ y, ((s.setZone z { s.zone z with raw := level }).zone y).isolated = (s.zone y).isolated := by
      intro y
      by_cases e : y = z
      · subst e; simp
      · rw [State.zone_setZone_ne s _ e]
    simp only [iso]
    exact hs
  | _ => exact hs

theorem deviceResetEnds_listSound (s : State) : (deviceResetEnds s).ListSound := by
  have k : s.blocksReset.ListSound := by
    refine ⟨?_, fun e _ => ?_⟩
    · rw [State.blocksReset_alarms, List.map_map]
      simpa [Function.comp_def, allZones] using (List.nodup_finRange 32).filter s.blocksReset.active
    · rw [State.blocksReset_zone]; rfl
  simpa only [State.ListSound, deviceResetEnds_alarms, deviceResetEnds_zone] using k

/-- Settles O10: every act of a step keeps the list sound, a reset's beginning empties it and its end rebuilds it from
zones that are not isolated. -/
theorem alarmListStaysSound : Obligations.AlarmListStaysSound := by
  intro s t h e
  refine step_keeps (P := fun s : State => s.ListSound) ?_ ?_ ?_ h e
  · exact fun _ _ a k => a.keeps_listSound k
  · exact fun s _ => deviceResetEnds_listSound s
  · exact fun _ _ => ⟨List.nodup_nil, fun _ he => absurd he List.not_mem_nil⟩

/-! ## Line events at the list (R11, R12) -/

theorem lineArrival_absent {z : Zone} {l : List AlarmEntry} (m : ZoneMode) (h : z ∉ l.map AlarmEntry.zone) :
    lineArrival m z l = l ++ [{ zone := z, origin := .line, latched := m == .latch }] := by
  have : inList z l = false := by rw [← Bool.not_eq_true, inList_iff]; exact h
  simp [lineArrival, this]

/-- A present zone's entries take the latched flag of a LATCH zone, and nothing else of the list changes. -/
theorem lineArrival_present {z : Zone} {l : List AlarmEntry} (m : ZoneMode) (h : z ∈ l.map AlarmEntry.zone) :
    lineArrival m z l = l.map fun e => { e with latched := e.latched || (e.zone == z && m == .latch) } := by
  rw [lineArrival, if_pos ((inList_iff z l).mpr h)]
  cases m with
  | latch =>
    refine List.map_congr_left fun e _ => ?_
    by_cases he : e.zone = z
    · simp [he]
    · have : (e.zone == z) = false := by simpa using he
      simp [he, this]
  | follow =>
    have : (ZoneMode.follow == ZoneMode.latch) = false := rfl
    simp [this]

/-- An entry that is to stay stays in a line clear. -/
theorem lineClear_keeps {z : Zone} {l : List AlarmEntry} (h : ∀ e ∈ l, e.zone = z → e.latched = true) :
    lineClear z l = l := by
  refine List.filter_eq_self.mpr fun e he => ?_
  by_cases hz : e.zone = z
  · simp [h e he hz]
  · simp [hz]

/-- Of a list that holds no zone twice, entries with the same zone are the same. -/
theorem eq_of_zone_eq {l : List AlarmEntry} (h : (l.map AlarmEntry.zone).Nodup) {a b : AlarmEntry} (ha : a ∈ l)
    (hb : b ∈ l) (e : a.zone = b.zone) : a = b := List.inj_on_of_nodup_map h ha hb e

/-- In a list that holds no zone twice, the zone of an entry is no other entry's. -/
theorem zone_ne_of_split {a b : List AlarmEntry} {e : AlarmEntry}
    (h : ((a ++ e :: b).map AlarmEntry.zone).Nodup) : ∀ x ∈ a ++ b, x.zone ≠ e.zone := by
  rw [List.map_append, List.map_cons, List.nodup_middle, List.nodup_cons, ← List.map_append] at h
  intro x hx he
  exact h.1 (he ▸ List.mem_map_of_mem hx)

/-- Settles O5: an arrival appends or latches, and a clear removes exactly an unlatched entry. -/
theorem lineEventsAtTheList : Obligations.LineEventsAtTheList := by
  intro z l
  refine ⟨fun m => ⟨lineArrival_absent m, fun h => ?_⟩, fun hn => ⟨fun e he hz hl => ?_, ?_, fun h => ?_⟩⟩
  · rw [lineArrival_present m h]
    exact ⟨by simp, fun k e he => by simp [he]⟩
  · exact lineClear_keeps fun x hx hxz => by rw [eq_of_zone_eq hn hx he (hxz.trans hz.symm)]; exact hl
  · rintro a b e rfl rfl hl
    have others := zone_ne_of_split hn
    have keep (x : List AlarmEntry) (hx : ∀ y ∈ x, y ∈ a ++ b) : lineClear e.zone x = x :=
      lineClear_keeps fun y hy he => absurd he (others y (hx y hy))
    have ka := keep a fun y hy => List.mem_append_left b hy
    have kb := keep b fun y hy => List.mem_append_right a hy
    simp only [lineClear] at ka kb
    simp [lineClear, ka, kb, hl]
  · exact lineClear_keeps fun e he hz => absurd (hz ▸ List.mem_map_of_mem he) h

/-! ## Raw changes (R2, R114) -/

theorem Filter.rawChange_load {n : Nat} {raw : Level} {f : Filter} (h : f.filtered ≠ raw) (hn : 0 < n) :
    f.rawChange n raw = { filtered := f.filtered, timer := .running n 0 } := by
  simp [Filter.rawChange_eq, h.symm, Nat.pos_iff_ne_zero.mp hn]

theorem Filter.rawChange_zero {raw : Level} {f : Filter} (h : f.filtered ≠ raw) :
    f.rawChange 0 raw = { filtered := raw, timer := .idle } := by
  simp [Filter.rawChange_eq, h.symm]

theorem Filter.rawChange_back {n : Nat} {raw : Level} {f : Filter} (h : f.filtered = raw) :
    f.rawChange n raw = { filtered := raw, timer := .idle } := by
  simp [Filter.rawChange_eq, h]

/-- A line whose filtered level and isolation flag stand changes nothing that R18 names. -/
theorem zoneFilterTakes_same {z : Zone} {l : ZoneLine} {s : State}
    (hf : l.filter.filtered = (s.zone z).filter.filtered) (hi : l.isolated = (s.zone z).isolated) :
    zoneFilterTakes z l s = s.setZone z l := by
  have line : ∀ y, ((s.setZone z l).zone y).filter.filtered = (s.zone y).filter.filtered ∧
      ((s.setZone z l).zone y).isolated = (s.zone y).isolated := by
    intro y
    by_cases e : y = z
    · subst e; simp [hf, hi]
    · rw [State.zone_setZone_ne s l e]; exact ⟨rfl, rfl⟩
  have act : ∀ y, (s.setZone z l).active y = s.active y := by
    intro y; simp only [State.active, State.setZone_store, (line y).1]
  rw [zoneFilterTakes, ← act z, activityEvent_same]
  exact zonesFollow_of_unchanged rfl fun y => by simp [zoneChanged, act, (line y).2]

/-- What the filter takes does not depend on how the line stood before, but for its activity and isolation flag. -/
theorem zoneFilterTakes_setZone {z : Zone} {l l' : ZoneLine} {s : State}
    (hf : l'.filter.filtered = (s.zone z).filter.filtered) (hi : l'.isolated = (s.zone z).isolated) :
    zoneFilterTakes z l (s.setZone z l') = zoneFilterTakes z l s := by
  have line : ∀ y, ((s.setZone z l').zone y).filter.filtered = (s.zone y).filter.filtered ∧
      ((s.setZone z l').zone y).isolated = (s.zone y).isolated := by
    intro y
    by_cases e : y = z
    · subst e; simp [hf, hi]
    · rw [State.zone_setZone_ne s l' e]; exact ⟨rfl, rfl⟩
  have act : ∀ y, (s.setZone z l').active y = s.active y := by
    intro y; simp only [State.active, State.setZone_store, (line y).1]
  have ch (t : State) : changedZones (s.setZone z l') t = changedZones s t :=
    List.filter_congr fun y _ => zoneChanged_congr (act y) (line y).2 rfl
  unfold zoneFilterTakes zonesFollow
  rw [act, State.setZone_setZone, ch]
  rfl

/-- An event that changes only the supply monitor and brings nothing else. -/
theorem State.runEvent_quiet {g : Env → Ev → Ev} {s : State} {pl : Plant}
    (h : g s.env (.start s.plant) = .start pl) : s.runEvent g = { s with plant := pl } := by
  have e : finishEvent s.env (.start pl) = .start pl := by
    simp [finishEvent, settleAll, settle, Config.settleRounds, Ev.start, Ev.withPlant]
  simp only [State.runEvent, h, e, Ev.start_plant, Ev.start_marks, Ports.markAll_nil]

/-- Events that come to the same plant within the event come to the same machine. -/
theorem State.runEvent_congr {g g' : Env → Ev → Ev} {s : State} {pl : Plant}
    (h : g s.env (.start s.plant) = g' s.env (.start pl)) :
    s.runEvent g = State.runEvent g' { s with plant := pl } := by
  simp only [State.runEvent]
  rw [h]
  rfl

/-- Settles O3: a raw change loads, cancels or runs out the filter. -/
theorem rawChangesFilter : Obligations.RawChangesFilter := by
  refine ⟨fun s z level hh hr => ?_, fun s level hh hr => ?_⟩
  · have e : exec (.zoneRawLevelChange z level) s = .next (zoneFilterTakes z { s.zone z with
        raw := level, filter := (s.zone z).filter.rawChange (s.store.zone z).tZF level } s) := by
      show Host.Outcome.next (zoneRawChange z level s) = _
      simp [zoneRawChange, hr, hh]
    refine ⟨fun hf ht => ?_, fun hf ht => ?_, fun hf => ?_⟩
    · rw [e, Filter.rawChange_load hf ht]
      exact congrArg _ (zoneFilterTakes_same (by rfl) (by rfl))
    · rw [e, ht, Filter.rawChange_zero hf]
      refine congrArg Host.Outcome.next (.trans ?_ (if_neg (by simp [hh])).symm)
      rw [zoneTimerOut, State.zone_setZone_self]
      exact ((if_pos rfl).trans (zoneFilterTakes_setZone (by rfl) (by rfl))).symm
    · rw [e, Filter.rawChange_back hf, ← hf]
      exact congrArg _ (zoneFilterTakes_same (by rfl) (by rfl))
  · have e : exec (.supfailRawLevelChange level) s = .next (s.runEvent (supfailLine level)) := by
      show Host.Outcome.next (supfailChange level s) = _
      simp [supfailChange, hh]
    have line : supfailLine level s.env (.start s.plant) =
        supplyFilterTakes s.env (s.plant.supply.filter.rawChange s.store.device.tFBF level)
          ((Ev.start s.plant).withSupply fun su => { su with raw := level }) := by
      simp [supfailLine, hr, State.env]
    refine ⟨fun hf ht => ?_, fun hf ht => ?_, fun hf => ?_⟩ <;> rw [e]
    · refine congrArg _ (State.runEvent_quiet ?_)
      rw [line, Filter.rawChange_load hf ht]
      exact if_pos rfl
    · refine congrArg Host.Outcome.next (.trans ?_ (if_neg (by simp [hh])).symm)
      refine State.runEvent_congr ?_
      rw [line, ht, Filter.rawChange_zero hf]
      rfl
    · refine congrArg _ (State.runEvent_quiet ?_)
      rw [line, Filter.rawChange_back hf]
      exact (if_pos hf).trans (by rw [← hf]; rfl)

end Sys2Proof.Machine
end

section
/-! SUPPORT. The fans and the start queue: what a written fan record makes of the queue, which records are as Table 4-2
gives them, and that every update of an event keeps a plant fit: records of the stored kinds, sound fans, and a queue of
exactly the QUEUED fans in their order. -/

namespace Sys2Proof.Machine

/-! ## The start queue (R103) -/

/-- The order of the queue: stage, then point number. -/
abbrev queueOrder (st : Store) (p q : Point) : Prop :=
  (st.point p).nSTG < (st.point q).nSTG ∨ ((st.point p).nSTG = (st.point q).nSTG ∧ p.val < q.val)

theorem mem_queueInsert {st : Store} {p q : Point} {l : List Point} :
    q ∈ queueInsert st p l ↔ q = p ∨ q ∈ l := by
  induction l with
  | nil => simp [queueInsert]
  | cons x xs ih =>
    unfold queueInsert
    split
    · simp
    · rw [List.mem_cons, ih, List.mem_cons]; tauto

theorem queueBefore_iff {st : Store} {p q : Point} (h : p ≠ q) : queueBefore st p q = true ↔ queueOrder st p q := by
  have h' : p.val ≠ q.val := fun e => h (Fin.ext e)
  simp only [queueBefore, Bool.or_eq_true, Bool.and_eq_true, decide_eq_true_eq]
  omega

theorem queueOrder_trans {st : Store} {p q r : Point} (h : queueOrder st p q) (k : queueOrder st q r) :
    queueOrder st p r := by unfold queueOrder at *; omega

/-- A fan joins in its place. -/
theorem queueInsert_pairwise {st : Store} {p : Point} {l : List Point} (h : l.Pairwise (queueOrder st))
    (hp : p ∉ l) : (queueInsert st p l).Pairwise (queueOrder st) := by
  induction l with
  | nil => simp [queueInsert]
  | cons x xs ih =>
    obtain ⟨hx, hxs⟩ := List.pairwise_cons.mp h
    have hne : p ≠ x := fun e => hp (e ▸ List.mem_cons_self)
    unfold queueInsert
    split <;> rename_i hb
    · rw [queueBefore_iff hne] at hb
      refine List.pairwise_cons.mpr ⟨fun y hy => ?_, h⟩
      rcases List.mem_cons.mp hy with rfl | hy
      · exact hb
      · exact queueOrder_trans hb (hx y hy)
    · rw [queueBefore_iff hne] at hb
      have h' : p.val ≠ x.val := fun e => hne (Fin.ext e)
      refine List.pairwise_cons.mpr ⟨fun y hy => ?_, ih hxs fun m => hp (List.mem_cons_of_mem _ m)⟩
      rcases mem_queueInsert.mp hy with rfl | hy
      · unfold queueOrder at *; omega
      · exact hx y hy

/-- The queue after a fan's change from state `o` to state `f`. -/
def queueAfter (st : Store) (p : Point) (o f : FanState) (l : List Point) : List Point :=
  if o ≠ .queued ∧ f = .queued then queueInsert st p l
  else if o = .queued ∧ f ≠ .queued then l.filter (· != p)
  else l

theorem mem_queueAfter {st : Store} {p q : Point} {o f : FanState} {l : List Point} (h : p ∈ l ↔ o = .queued) :
    q ∈ queueAfter st p o f l ↔ if q = p then f = .queued else q ∈ l := by
  by_cases e : q = p <;> by_cases ho : o = .queued <;> by_cases hf : f = .queued <;>
    simp [queueAfter, ho, hf, e, mem_queueInsert, h]

theorem queueAfter_pairwise {st : Store} {p : Point} {o f : FanState} {l : List Point}
    (h : l.Pairwise (queueOrder st)) (hp : p ∈ l ↔ o = .queued) :
    (queueAfter st p o f l).Pairwise (queueOrder st) := by
  unfold queueAfter
  split
  · rename_i hs; exact queueInsert_pairwise h fun m => hs.1 (hp.mp m)
  · split
    · exact h.filter _
    · exact h

/-! ## What a written fan record makes of the scheduler -/

theorem testPendingLimit_queue (ev : Ev) : ev.testPendingLimit.plant.sched.queue = ev.plant.sched.queue := by
  unfold Ev.testPendingLimit
  split
  · rfl
  · split <;> rfl

theorem queueFollows_sched (env : Env) (p : Point) (o f : Fan) (ev : Ev) :
    (queueFollows env p o f ev).plant.sched =
      { ev.plant.sched with queue := queueAfter env.store p o.state f.state ev.plant.sched.queue } := by
  unfold queueFollows queueAfter
  split
  · rw [noteJoining_plant]; rfl
  · split <;> rfl

theorem schedulerFollows_queue (env : Env) (p : Point) (o f : Fan) (ev : Ev) :
    (schedulerFollows env p o f ev).plant.sched.queue =
      queueAfter env.store p o.state f.state ev.plant.sched.queue := by
  obtain ⟨b, e⟩ := schedulerFollows_eq env p o f ev
  rw [e, Ev.evaluateIf_plant]
  split
  · unfold Ev.unitsReturned
    rw [Ev.evaluateIf_plant, testPendingLimit_queue, Ev.withSched_sched, queueFollows_sched]
  · rw [queueFollows_sched]

theorem releaseIf_sched (env : Env) (b : Bool) (ev : Ev) :
    (if b then releaseWaiting env ev else ev).plant.sched = ev.plant.sched := by
  split
  · exact releaseWaiting_sched env ev
  · rfl

theorem reportIf_plant (b : Bool) (r : Report) (ev : Ev) : (if b then ev.report r else ev).plant = ev.plant := by
  split <;> rfl

/-- The scheduler after a fan's record is written is the one that follows the change. -/
theorem putFan_sched (env : Env) {p : Point} (f : Fan) {ev : Ev} {o : Fan} (h : ev.plant.fan? p = some o) :
    ∃ ev' : Ev, ev'.plant.sched = ev.plant.sched ∧
      (putFan env p f ev).plant.sched =
        (schedulerFollows env p o (f.norm (env.store.point p)) ev').plant.sched := by
  obtain ⟨b, r, c, -, e⟩ := putFan_eq env p f h
  refine ⟨(ev.setChan p { ev.plant.chan p with
    unit := .fan (f.norm (env.store.point p)), cmd := f.state.energised }).markIf b p, ?_, ?_⟩
  · rw [Ev.markIf_plant]; rfl
  · rw [e, releaseIf_sched, reportIf_plant]; rfl

theorem putFan_queue (env : Env) {p : Point} (f : Fan) {ev : Ev} {o : Fan} (h : ev.plant.fan? p = some o) :
    (putFan env p f ev).plant.sched.queue = queueAfter env.store p o.state f.state ev.plant.sched.queue := by
  obtain ⟨ev', hs, e⟩ := putFan_sched env f h
  rw [e, schedulerFollows_queue, hs]; rfl

/-! ## Records as Table 4-2 gives them -/

/-- A record in its normal form is as Table 4-2 gives it when its timers run by its state, a FAULT has its kind, and its
reference and counters are at rest or within their bounds. -/
theorem Fan.norm_tableSound {c : PointCfg} {f : Fan} (hrd : f.runDown.isRunning = (f.state == .runDown))
    (hpl : f.proofLimit.isRunning = (f.state == .starting)) (hg : f.proof.gate.isRunning = f.state.energised)
    (hf : f.state = .fault → f.fault ≠ .none)
    (hr : f.state.energised = false → f.speed = .atRest ∧ f.proof.inRun = 0 ∧ f.proof.outRun = 0)
    (hc : f.proof.count ≤ 4095) (hi : f.proof.inRun ≤ c.nK) (ho : f.proof.outRun ≤ c.nK)
    (hp : f.speed.phase < 200) : (f.norm c).TableSound c := by
  refine ⟨hrd, hpl, hg, fun hw => ?_, ?_, rfl, hr, hc, hi, ho, hp⟩
  · by_contra hq
    have hq' : f.state ≠ .queued := hq
    simp [Fan.norm_wait, hq'] at hw
  · by_cases hs : f.state = .fault
    · simpa [Fan.norm_fault, hs] using hf hs
    · simp [Fan.norm_fault, hs]

/-- A sound record in FAULT has a fault kind. -/
theorem Fan.TableSound.fault {c : PointCfg} {f : Fan} (h : f.TableSound c) (hs : f.state = .fault) :
    f.fault ≠ .none := by
  obtain ⟨-, -, -, -, hf, -⟩ := h
  simpa [hs] using hf

/-- A change of a sound record that leaves its state, timers, counters and reference. -/
theorem Fan.TableSound.norm_of_same {c : PointCfg} {o f : Fan} (h : o.TableSound c) (hs : f.state = o.state)
    (hf : f.fault = o.fault) (hr : f.runDown = o.runDown) (hl : f.proofLimit = o.proofLimit)
    (hp : f.proof = o.proof) (hv : f.speed = o.speed) : (f.norm c).TableSound c := by
  have hk := h.fault
  obtain ⟨h1, h2, h3, -, -, -, h7, h8, h9, h10, h11⟩ := h
  refine Fan.norm_tableSound ?_ ?_ ?_ ?_ ?_ ?_ ?_ ?_ ?_ <;> simp_all

/-- Records at rest: a fan that is not energised has no window, no proof limit and nothing applied. -/
structure Fan.AtRest (f : Fan) : Prop where
  proofLimit : f.proofLimit.isRunning = false
  gate : f.proof.gate.isRunning = false
  speed : f.speed = .atRest
  inRun : f.proof.inRun = 0
  outRun : f.proof.outRun = 0
  count : f.proof.count ≤ 4095

theorem Fan.TableSound.atRest {c : PointCfg} {f : Fan} (h : f.TableSound c) (he : f.state.energised = false) :
    f.AtRest := by
  obtain ⟨-, h2, h3, -, -, -, h7, h8, -⟩ := h
  obtain ⟨hv, hi, ho⟩ := h7 he
  refine ⟨?_, h3.trans he, hv, hi, ho, h8⟩
  rw [h2]
  cases hs : f.state <;> simp [hs, FanState.energised] at he ⊢

theorem Fan.deEnergise_atRest (f : Fan) : f.deEnergise.AtRest :=
  ⟨rfl, rfl, rfl, rfl, rfl, by simp [Fan.deEnergise, RunProof.stop]⟩

/-- A record at rest in a state that is not energised is as the table gives it, if its run-down timer is. -/
theorem Fan.AtRest.tableSound {c : PointCfg} {f : Fan} (h : f.AtRest) (he : f.state.energised = false)
    (hr : f.runDown.isRunning = (f.state == .runDown)) (hf : f.state = .fault → f.fault ≠ .none) :
    (f.norm c).TableSound c := by
  refine Fan.norm_tableSound hr ?_ (h.gate.trans he.symm) hf (fun _ => ⟨h.speed, h.inRun, h.outRun⟩) h.count
    (by rw [h.inRun]; exact Nat.zero_le _) (by rw [h.outRun]; exact Nat.zero_le _) (by rw [h.speed]; decide)
  rw [h.proofLimit]
  cases hs : f.state <;> simp [hs, FanState.energised] at he ⊢

theorem Fan.TableSound.runDown_of_ne {c : PointCfg} {f : Fan} (h : f.TableSound c) (hs : f.state ≠ .runDown) :
    f.runDown.isRunning = false := by rw [h.1]; simpa using hs

/-- Entry to RUNDOWN with a time to run down (R84). -/
theorem Fan.toRunDown_tableSound {c : PointCfg} (o : Fan) (ht : 0 < c.tRD) : ((o.toRunDown c).norm c).TableSound c := by
  obtain ⟨h1, h2, h3, h4, h5, h6⟩ := o.deEnergise_atRest
  refine Fan.AtRest.tableSound ⟨h1, h2, h3, h4, h5, h6⟩ rfl ?_ (by simp [Fan.toRunDown])
  simp [Fan.toRunDown, Timer.load_pos (show 0 < 8 * c.tRD by omega)]

/-- Entry to RUNDOWN that ends within the event (R83). -/
theorem Fan.toRunDown_afterRunDown_tableSound (c : PointCfg) (o : Fan) :
    ((((o.toRunDown c).norm c).afterRunDown).norm c).TableSound c := by
  obtain ⟨h1, h2, h3, h4, h5, h6⟩ := o.deEnergise_atRest
  have he : ((o.toRunDown c).norm c).afterRunDown.state.energised = false := by
    dsimp only [Fan.afterRunDown]; split <;> rfl
  refine Fan.AtRest.tableSound ⟨h1, h2, h3, h4, h5, h6⟩ he ?_ ?_
  · dsimp only [Fan.afterRunDown]; split <;> rfl
  · dsimp only [Fan.afterRunDown]; split <;> simp

section Records
variable {c : PointCfg} {o : Fan} (h : o.TableSound c)
include h

theorem Fan.TableSound.handed {f : Fan} (k : Handed c o f) : (f.norm c).TableSound c := by
  cases k with
  | held w => exact h.norm_of_same rfl rfl rfl rfl rfl rfl
  | queues w ho =>
    obtain ⟨h1, h2, h3, h4, h5, h6⟩ := h.atRest (by rw [ho]; rfl)
    exact Fan.AtRest.tableSound ⟨h1, h2, h3, h4, h5, h6⟩ rfl (h.runDown_of_ne (by simp [ho])) (by simp)
  | leaves w ho =>
    obtain ⟨h1, h2, h3, h4, h5, h6⟩ := h.atRest (by rw [ho]; rfl)
    exact Fan.AtRest.tableSound ⟨h1, h2, h3, h4, h5, h6⟩ rfl (h.runDown_of_ne (by simp [ho])) (by simp)
  | speed w n ho =>
    have hk := h.fault
    obtain ⟨h1, h2, h3, -, -, -, -, h8, h9, h10, h11⟩ := h
    refine Fan.norm_tableSound h1 h2 h3 hk ?_ h8 h9 h10 ?_
    · intro x; exact absurd (ho.symm.trans x) (by simp)
    · dsimp only [SpeedRef.take]; split <;> exact h11

/-- The end of a run-down (R85). -/
theorem Fan.TableSound.afterRunDown (hs : o.state = .runDown) : (o.afterRunDown.norm c).TableSound c := by
  obtain ⟨h1, h2, h3, h4, h5, h6⟩ := h.atRest (by rw [hs]; rfl)
  have he : o.afterRunDown.state.energised = false := by dsimp only [Fan.afterRunDown]; split <;> rfl
  refine Fan.AtRest.tableSound ⟨h1, h2, h3, h4, h5, h6⟩ he ?_ ?_
  · dsimp only [Fan.afterRunDown]; split <;> rfl
  · dsimp only [Fan.afterRunDown]; split <;> simp

/-- Entry to FAULT from an energised state (R81, R90). -/
theorem Fan.TableSound.toFault {k : FanFault} (hk : k ≠ .none) (he : o.state.energised = true) :
    ((o.toFault k).norm c).TableSound c := by
  obtain ⟨h1, h2, h3, h4, h5, h6⟩ := o.deEnergise_atRest
  refine Fan.AtRest.tableSound ⟨h1, h2, h3, h4, h5, h6⟩ rfl ?_ (fun _ => hk)
  exact h.runDown_of_ne (by rintro e; rw [e] at he; cases he)

/-- EQRS on a fan in FAULT (R91): IDLE, and then QUEUED if its demand is RUN. -/
theorem Fan.TableSound.resetTo (hs : o.state = .fault) {x : FanState} (hx : x = .idle ∨ x = .queued) :
    (({ o with state := x, fault := .none } : Fan).norm c).TableSound c := by
  obtain ⟨h1, h2, h3, h4, h5, h6⟩ := h.atRest (by rw [hs]; rfl)
  have hr := h.runDown_of_ne (by simp [hs])
  rcases hx with rfl | rfl <;>
    exact Fan.AtRest.tableSound ⟨h1, h2, h3, h4, h5, h6⟩ rfl hr (by simp)

/-- A start (R79). -/
theorem Fan.TableSound.started (hc : c.InRange) (hs : o.state = .queued) : ((o.started c).norm c).TableSound c := by
  obtain ⟨-, -, ⟨hpl, -⟩, ⟨hg, -⟩, -⟩ := hc
  refine Fan.norm_tableSound ?_ ?_ ?_ (by simp [Fan.started]) ?_ (Nat.zero_le _) (Nat.zero_le _) (Nat.zero_le _)
    (by simp [Fan.started])
  · exact h.runDown_of_ne (by simp [hs])
  · simp [Fan.started, Timer.load_pos (show 0 < 8 * c.tPL by omega)]
  · simp [Fan.started, RunProof.beginWindow, Timer.load_pos (show 0 < c.nGATE by omega), FanState.energised]
  · simp [Fan.started, FanState.energised]

/-- A period boundary (R98, R99). -/
theorem Fan.TableSound.boundary (hc : c.InRange) (he : o.state.energised = true) :
    ((o.boundary c).norm c).TableSound c := by
  have hk := h.fault
  obtain ⟨h1, h2, h3, -, -, -, -, h8, h9, h10, h11⟩ := h
  obtain ⟨-, -, -, ⟨hg, -⟩, -⟩ := hc
  have hn : ∀ x : Prop, o.state.energised = false → x := fun x y => absurd (he.symm.trans y) (by simp)
  unfold Fan.boundary
  split
  · exact Fan.norm_tableSound h1 h2 h3 hk (hn _) h8 h9 h10 (by simp)
  · refine Fan.norm_tableSound h1 h2 ?_ hk (hn _) (Nat.zero_le _) (Nat.zero_le _) (Nat.zero_le _) (by simp)
    rw [he]
    simp [RunProof.beginWindow, Timer.load_pos (show 0 < c.nGATE by omega)]

/-- The end of a gate window (R80, R82, R96). -/
theorem Fan.TableSound.windowEnds (hc : c.InRange) (he : o.state.energised = true) :
    ((o.windowEnds c).norm c).TableSound c := by
  have hk := h.fault
  obtain ⟨h1, h2, h3, -, -, -, -, h8, h9, h10, h11⟩ := h
  obtain ⟨-, -, -, ⟨hg, -⟩, -⟩ := hc
  let r : RunProof := (o.proof.endWindow c).beginWindow c o.speed.applied
  have hgate : r.gate.isRunning = true := by
    simp [r, RunProof.beginWindow, Timer.load_pos (show 0 < c.nGATE by omega)]
  have hin : r.inRun ≤ c.nK := by
    simp only [r, RunProof.beginWindow, RunProof.endWindow]; split <;> omega
  have hout : r.outRun ≤ c.nK := by
    simp only [r, RunProof.beginWindow, RunProof.endWindow]; split <;> omega
  have sound (x : FanState) (t : Timer) (hx : x.energised = true) (ht : t.isRunning = (x == .starting)) :
      (({ o with state := x, proofLimit := t, proof := r } : Fan).norm c).TableSound c := by
    refine Fan.norm_tableSound ?_ ht (hgate.trans hx.symm) ?_ ?_ (Nat.zero_le _) hin hout h11
    · rw [h1]; cases x <;> cases ho : o.state <;> simp [ho, FanState.energised] at he hx ⊢
    · rintro rfl; cases hx
    · intro y; exact absurd (hx.symm.trans y) (by simp)
  have stays : (({ o with proof := r } : Fan).norm c).TableSound c := sound o.state o.proofLimit he h2
  show ((Fan.actOnCounters c { o with proof := r }).norm c).TableSound c
  unfold Fan.actOnCounters
  split <;> rename_i hs
  · split
    · exact sound .running .idle rfl rfl
    · exact stays
  · split
    · exact sound .lost o.proofLimit rfl (by rw [h2, show o.state = .running from hs]; rfl)
    · exact stays
  · split
    · exact sound .running o.proofLimit rfl (by rw [h2, show o.state = .lost from hs]; rfl)
    · exact stays
  · exact stays

/-- A rising edge counted (R94). -/
theorem Fan.TableSound.edge : ({ o with proof := o.proof.edge } : Fan).TableSound c := by
  obtain ⟨h1, h2, h3, h4, h5, h6, h7, h8, h9, h10, h11⟩ := h
  exact ⟨h1, h2, h3, h4, h5, h6, h7, Nat.min_le_right _ _, h9, h10, h11⟩

/-- One count of the time base (R98, R150). -/
theorem Fan.TableSound.tick : o.tick.TableSound c := by
  obtain ⟨h1, h2, h3, h4, h5, h6, h7, h8, h9, h10, h11⟩ := h
  refine ⟨?_, ?_, ?_, h4, h5, h6, fun he => ?_, h8, h9, h10, ?_⟩
  · exact (Timer.isRunning_tick _).trans h1
  · exact (Timer.isRunning_tick _).trans h2
  · exact (Timer.isRunning_tick _).trans h3
  · have he' : o.state.energised = false := he
    obtain ⟨hv, hi, ho⟩ := h7 he'
    exact ⟨by simp [Fan.tick, SpeedRef.tick, he', hv], hi, ho⟩
  · show (o.speed.tick o.state.energised).phase < 200
    unfold SpeedRef.tick
    split
    · rename_i hp; simp [Config.periodCounts] at hp; exact of_decide_eq_true hp.2
    · exact h11

end Records

/-- A fan record after reset (R101, R102). -/
theorem Fan.afterReset_tableSound (c : PointCfg) (fbb : Level) : (Fan.afterReset c fbb).TableSound c := by
  unfold Fan.afterReset
  by_cases ht : c.tRD = 0
  · exact Fan.AtRest.tableSound ⟨rfl, rfl, rfl, rfl, rfl, Nat.zero_le _⟩ (by simp [ht]; rfl) (by simp [ht])
      (by simp [ht])
  · exact Fan.AtRest.tableSound ⟨rfl, rfl, rfl, rfl, rfl, Nat.zero_le _⟩ (by simp [ht]; rfl)
      (by simp [ht, Timer.load_pos (show 0 < 8 * c.tRD by omega)]) (by simp [ht])

end Sys2Proof.Machine
end

section
/-! SUPPORT. Every update of an event, every event and every act of a step keeps the plant fit; and so the statement about
the fans, the queue and the zone filters. -/

namespace Sys2Proof.Machine

/-! ## Which updates touch the records and the queue -/

/-- The sequencer records, the CMDs, the scheduler and the supply monitor are as they were. -/
def Plant.UnitsKept (a b : Plant) : Prop :=
  (∀ q, (b.chan q).unit = (a.chan q).unit ∧ (b.chan q).cmd = (a.chan q).cmd) ∧ b.sched = a.sched ∧
    b.supply = a.supply

theorem Plant.UnitsKept.refl (a : Plant) : a.UnitsKept a := ⟨fun _ => ⟨rfl, rfl⟩, rfl, rfl⟩

theorem Plant.UnitsKept.trans {a b c : Plant} (h : a.UnitsKept b) (k : b.UnitsKept c) : a.UnitsKept c :=
  ⟨fun q => ⟨(k.1 q).1.trans (h.1 q).1, (k.1 q).2.trans (h.1 q).2⟩, k.2.1.trans h.2.1, k.2.2.trans h.2.2⟩

/-- A channel replaced by one with the same record and CMD. -/
theorem Plant.unitsKept_setChan {pl : Plant} {p : Point} {c : Channel} (hu : c.unit = (pl.chan p).unit)
    (hc : c.cmd = (pl.chan p).cmd) : pl.UnitsKept (pl.setChan p c) := by
  refine ⟨fun q => ?_, rfl, rfl⟩
  rw [Plant.chan_setChan]
  split
  · rename_i e; subst e; exact ⟨hu, hc⟩
  · exact ⟨rfl, rfl⟩

theorem Plant.UnitsKept.fan? {a b : Plant} (h : a.UnitsKept b) (q : Point) : b.fan? q = a.fan? q := by
  simp only [Plant.fan?, Channel.fan?, (h.1 q).1]

theorem Plant.UnitsKept.damper? {a b : Plant} (h : a.UnitsKept b) (q : Point) : b.damper? q = a.damper? q := by
  simp only [Plant.damper?, Channel.damper?, (h.1 q).1]

/-- The resolver and the test unit touch no sequencer record. -/
theorem ResUpd.unitsKept {env : Env} {a b : Ev} (u : ResUpd env a b) : a.plant.UnitsKept b.plant := by
  cases u with
  | book hp _ _ => rw [hp]; exact ⟨fun _ => ⟨rfl, rfl⟩, rfl, rfl⟩
  | lastFire p hk h => exact Plant.unitsKept_setChan rfl rfl
  | noDemand p hk => exact Plant.unitsKept_setChan rfl rfl
  | demand p hk => exact Plant.unitsKept_setChan rfl rfl
  | testDemand p x h => exact Plant.unitsKept_setChan rfl rfl
  | _ => exact ⟨fun _ => ⟨rfl, rfl⟩, rfl, rfl⟩

/-- The kinds of the records: no event of the plant changes them. -/
theorem kinds_frame : PlantFrame fun a b => ∀ p, (b.chan p).unit.kind = (a.chan p).unit.kind where
  refl _ _ := rfl
  trans h k p := (k p).trans (h p)
  unit pl p u b h q := by
    rw [Plant.chan_setChan]; split
    · rename_i e; subst e; exact h
    · rfl
  demands pl p r l t q := by
    rw [Plant.chan_setChan]; split
    · rename_i e; subst e; rfl
    · rfl
  sched _ _ _ := rfl
  rest _ _ _ _ _ _ _ := rfl

/-- An update of the sequencers or the evaluation is within every frame of theirs. -/
theorem SeqUpd.frame {R : Plant → Plant → Prop} (F : SeqFrame R) {env : Env} {Q : Prop} {a b : Ev}
    (u : SeqUpd env Q a b) : R a.plant b.plant := by
  cases u with
  | damper p d => exact putDamper_frame F ..
  | fan p h hf => exact putFan_frame F ..
  | runDown p h he => exact enterRunDown_frame F ..
  | wait p r h hq => exact setWait_frame F _ r h
  | start p h hq => exact startFan_frame F ..

/-! ## A fit queue and a fit plant -/

/-- The queue holds exactly the QUEUED fans, by stage and then point number (R103). -/
structure Plant.QueueFit (st : Store) (pl : Plant) : Prop where
  mem : ∀ p, p ∈ pl.sched.queue ↔ pl.isQueued p = true
  order : pl.sched.queue.Pairwise (queueOrder st)

/-- Besides, every point has the record of its stored kind, and every fan record is as Table 4-2 gives it. -/
structure Plant.Fit (st : Store) (pl : Plant) : Prop extends Plant.QueueFit st pl where
  kinds : ∀ p, (pl.chan p).unit.kind = st.kind p
  fans : ∀ p f, pl.fan? p = some f → f.TableSound (st.point p)

theorem Plant.isQueued_iff {pl : Plant} {q : Point} :
    pl.isQueued q = true ↔ ∃ f, pl.fan? q = some f ∧ f.state = .queued := by
  unfold Plant.isQueued
  cases pl.fan? q <;> simp

theorem Plant.isQueued_of_fan? {pl : Plant} {q : Point} {f : Fan} (h : pl.fan? q = some f) :
    pl.isQueued q = true ↔ f.state = .queued := by simp [Plant.isQueued, h]

theorem Plant.QueueFit.queue_iff {st : Store} {pl : Plant} (F : pl.QueueFit st) {p : Point} {f : Fan}
    (h : pl.fan? p = some f) : p ∈ pl.sched.queue ↔ f.state = .queued :=
  (F.mem p).trans (Plant.isQueued_of_fan? h)

theorem Plant.QueueFit.nodup {st : Store} {pl : Plant} (F : pl.QueueFit st) : pl.sched.queue.Nodup :=
  F.order.imp fun {p q} h => by rintro rfl; unfold queueOrder at h; omega

/-- The queue of a fit plant is what the evaluation asks. -/
theorem Plant.QueueFit.queueOfQueued {st : Store} {pl : Plant} (F : pl.QueueFit st) : pl.QueueOfQueued :=
  ⟨F.nodup, fun _ hp _ hf => (F.queue_iff hf).mp hp⟩

/-- A plant with the fan records and the queue of a fit one has a fit queue. -/
theorem Plant.QueueFit.congr {st : Store} {a b : Plant} (F : a.QueueFit st) (hf : ∀ q, b.fan? q = a.fan? q)
    (hq : b.sched.queue = a.sched.queue) : b.QueueFit st where
  mem p := by rw [hq, F.mem, Plant.isQueued, Plant.isQueued, hf]
  order := hq ▸ F.order

/-- A plant in which one fan's record is another, and the queue followed, has a fit queue. -/
theorem Plant.QueueFit.changed {st : Store} {a b : Plant} (F : a.QueueFit st) {p : Point} {o f : Fan}
    (ho : a.fan? p = some o) (hb : ∀ q, b.fan? q = if q = p then some f else a.fan? q)
    (hq : b.sched.queue = queueAfter st p o.state f.state a.sched.queue) : b.QueueFit st where
  mem q := by
    rw [hq, mem_queueAfter (F.queue_iff ho), Plant.isQueued, hb]
    split
    · simp
    · exact F.mem q
  order := hq ▸ queueAfter_pairwise F.order (F.queue_iff ho)

/-- A plant with the fan records and the queue of a fit one is fit. -/
theorem Plant.Fit.congr {st : Store} {a b : Plant} (F : a.Fit st) (hk : ∀ p, (b.chan p).unit.kind = st.kind p)
    (hf : ∀ q, b.fan? q = a.fan? q) (hq : b.sched.queue = a.sched.queue) : b.Fit st where
  toQueueFit := F.toQueueFit.congr hf hq
  kinds := hk
  fans p f h := F.fans p f ((hf p).symm.trans h)

theorem Plant.Fit.unitsKept {st : Store} {a b : Plant} (F : a.Fit st) (h : a.UnitsKept b) : b.Fit st :=
  F.congr (fun p => (congrArg Equipment.kind (h.1 p).1).trans (F.kinds p)) h.fan? (by rw [h.2.1])

/-- A plant in which one fan's record is another sound one, and the queue followed, is fit. -/
theorem Plant.Fit.changed {st : Store} {a b : Plant} (F : a.Fit st) {p : Point} {o f : Fan} (ho : a.fan? p = some o)
    (hf : f.TableSound (st.point p)) (hk : ∀ q, (b.chan q).unit.kind = st.kind q)
    (hb : ∀ q, b.fan? q = if q = p then some f else a.fan? q)
    (hq : b.sched.queue = queueAfter st p o.state f.state a.sched.queue) : b.Fit st where
  toQueueFit := F.toQueueFit.changed ho hb hq
  kinds := hk
  fans q g h := by
    rw [hb] at h
    split at h
    · rename_i e; subst e; cases h; exact hf
    · exact F.fans q g h

/-! ## The updates keep it -/

/-- Whatever record is written, the queue follows. -/
theorem putFan_queueFit {env : Env} {p : Point} (f : Fan) {o : Fan} {ev : Ev} (F : ev.plant.QueueFit env.store)
    (h : ev.plant.fan? p = some o) : (putFan env p f ev).plant.QueueFit env.store :=
  F.changed (f := f.norm (env.store.point p)) h (fun q => by rw [putFan_fan?]; simp [h]) (putFan_queue env f h)

/-- A written record that is sound in its normal form keeps the plant fit. -/
theorem putFan_fit {env : Env} {p : Point} {f o : Fan} {ev : Ev} (F : ev.plant.Fit env.store)
    (h : ev.plant.fan? p = some o) (hf : (f.norm (env.store.point p)).TableSound (env.store.point p)) :
    (putFan env p f ev).plant.Fit env.store :=
  F.changed h hf (fun q => (putFan_frame kinds_frame.toSeqFrame env p f ev q).trans (F.kinds q))
    (fun q => by rw [putFan_fan?]; simp [h]) (putFan_queue env f h)

/-- The record that a run-down's entry leaves (R83, R84). -/
def Fan.ranDown (c : PointCfg) (f : Fan) : Fan :=
  if c.tRD = 0 then ((f.toRunDown c).norm c).afterRunDown.norm c else (f.toRunDown c).norm c

theorem Fan.ranDown_tableSound (c : PointCfg) (f : Fan) : (f.ranDown c).TableSound c := by
  unfold Fan.ranDown
  split
  · exact Fan.toRunDown_afterRunDown_tableSound c f
  · exact Fan.toRunDown_tableSound f (by omega)

/-- A run-down's entry: written once, or, with tRD 0, twice. -/
theorem enterRunDown_eq (env : Env) {p : Point} {ev : Ev} {o : Fan} (h : ev.plant.fan? p = some o) :
    enterRunDown env p ev =
      if (env.store.point p).tRD = 0 then
        putFan env p ((o.toRunDown (env.store.point p)).norm (env.store.point p)).afterRunDown
          (putFan env p (o.toRunDown (env.store.point p)) ev)
      else putFan env p (o.toRunDown (env.store.point p)) ev := by
  unfold enterRunDown
  simp only [h]
  split
  · unfold runDownEnds
    rw [putFan_fan?_self env _ h]
    rfl
  · rfl

theorem enterRunDown_fan? (env : Env) {p : Point} {ev : Ev} {o : Fan} (h : ev.plant.fan? p = some o) (q : Point) :
    (enterRunDown env p ev).plant.fan? q =
      if q = p then some (o.ranDown (env.store.point p)) else ev.plant.fan? q := by
  rw [enterRunDown_eq env h, Fan.ranDown]
  split
  · rw [putFan_fan?, putFan_fan?, putFan_fan?]
    by_cases e : q = p <;> simp [h, e]
  · rw [putFan_fan?]
    by_cases e : q = p <;> simp [h, e]

theorem enterRunDown_queue (env : Env) {p : Point} {ev : Ev} {o : Fan} (h : ev.plant.fan? p = some o)
    (ho : o.state ≠ .queued) :
    (enterRunDown env p ev).plant.sched.queue =
      queueAfter env.store p o.state (o.ranDown (env.store.point p)).state ev.plant.sched.queue := by
  rw [enterRunDown_eq env h, Fan.ranDown]
  split
  · rw [putFan_queue env _ (putFan_fan?_self env _ h), putFan_queue env _ h]
    simp [queueAfter, ho, Fan.toRunDown]
  · rw [putFan_queue env _ h]; rfl

theorem FanState.ne_queued_of_energised {x : FanState} (h : x.energised = true) : x ≠ .queued := by
  rintro rfl; cases h

theorem enterRunDown_fit {env : Env} {p : Point} {o : Fan} {ev : Ev} (F : ev.plant.Fit env.store)
    (h : ev.plant.fan? p = some o) (he : o.state.energised = true) :
    (enterRunDown env p ev).plant.Fit env.store :=
  F.changed h (o.ranDown_tableSound _)
    (fun q => (enterRunDown_frame kinds_frame.toSeqFrame env p ev q).trans (F.kinds q))
    (enterRunDown_fan? env h) (enterRunDown_queue env h (FanState.ne_queued_of_energised he))

/-- A record replaced by a sound one in the same state, its CMD as it was. -/
theorem setFan_fit {st : Store} {pl : Plant} {p : Point} {o f : Fan} (F : pl.Fit st) (h : pl.fan? p = some o)
    (hs : f.state = o.state) (hf : f.TableSound (st.point p)) :
    (pl.setChan p { pl.chan p with unit := .fan f }).Fit st := by
  refine F.changed h hf (fun q => ?_) (fun q => ?_) (by simp [queueAfter, hs])
  · rw [← F.kinds q, Plant.chan_setChan]
    split
    · rename_i e; subst e; rw [Plant.fan?_eq_some.mp h]; rfl
    · rfl
  · rw [Plant.fan?_setChan]; rfl

/-- Every update of an event keeps the queue fit. -/
theorem Upd.keeps_queueFit {env : Env} {Q : Prop} {a b : Ev} (u : Upd env Q a b) (F : a.plant.QueueFit env.store) :
    b.plant.QueueFit env.store := by
  cases u with
  | res u => exact F.congr u.unitsKept.fan? (by rw [u.unitsKept.2.1])
  | seq u =>
    cases u with
    | damper p d => exact F.congr (fun q => putDamper_fan? ..) (by rw [putDamper_sched])
    | fan p h hf => exact putFan_queueFit _ F h
    | runDown p h he =>
      exact F.changed h (enterRunDown_fan? env h) (enterRunDown_queue env h (FanState.ne_queued_of_energised he))
    | @wait p f r h hq =>
      refine F.changed h (f := { f with wait := some r }) (fun q => ?_) (by simp [queueAfter]; rfl)
      rw [setWait, Ev.setChan_plant, Plant.fan?_setChan]; rfl
    | @start p f h hq =>
      have k := putFan_queueFit (f.started (env.store.point p)) F h
      exact k.congr (fun _ => rfl) rfl

theorem Moves.keeps_queueFit {env : Env} {Q : Prop} {a b : Ev} (m : Moves env Q a b)
    (F : a.plant.QueueFit env.store) : b.plant.QueueFit env.store :=
  m.keeps (P := fun x => x.plant.QueueFit env.store) (fun _ _ u => u.keeps_queueFit) F

/-- The end of an event whose queue is fit touches QUEUED fans only in its evaluation. -/
theorem finishEvent_moves_of_queueFit {env : Env} (Q : Prop) {ev : Ev} (F : ev.plant.QueueFit env.store) :
    Moves env Q ev (finishEvent env ev) :=
  finishEvent_moves env Q ev fun _ => ((settleAll_moves env Q ev).keeps_queueFit F).queueOfQueued

/-- Every update of an event keeps the plant fit. -/
theorem Upd.keeps_fit {env : Env} (hc : ∀ p, (env.store.point p).InRange) {a b : Ev} (u : Upd env True a b)
    (F : a.plant.Fit env.store) : b.plant.Fit env.store := by
  cases u with
  | res u => exact F.unitsKept u.unitsKept
  | seq u =>
    cases u with
    | damper p d =>
      refine F.congr (fun q => ?_) (fun q => putDamper_fan? ..) (by rw [putDamper_sched])
      exact (putDamper_frame kinds_frame.toSeqFrame env p d a q).trans (F.kinds q)
    | fan p h hf => exact putFan_fit F h ((F.fans p _ h).handed hf)
    | runDown p h he => exact enterRunDown_fit F h he
    | wait p r h hq =>
      obtain ⟨h1, h2, h3, -, h5⟩ := F.fans p _ h
      exact setFan_fit F h rfl ⟨h1, h2, h3, fun _ => hq trivial, h5⟩
    | start p h hq =>
      have k := putFan_fit F h ((F.fans p _ h).started (hc p) (hq trivial))
      exact k.congr k.kinds (fun _ => rfl) rfl

theorem Moves.keeps_fit {env : Env} (hc : ∀ p, (env.store.point p).InRange) {a b : Ev} (m : Moves env True a b)
    (F : a.plant.Fit env.store) : b.plant.Fit env.store :=
  m.keeps (P := fun x => x.plant.Fit env.store) (fun _ _ u => u.keeps_fit hc) F

/-- The end of an event keeps the plant fit. -/
theorem finishEvent_fit {env : Env} (hc : ∀ p, (env.store.point p).InRange) {ev : Ev}
    (F : ev.plant.Fit env.store) : (finishEvent env ev).plant.Fit env.store :=
  (finishEvent_moves_of_queueFit True F.toQueueFit).keeps_fit hc F

end Sys2Proof.Machine
end

section
/-! SUPPORT. Every event of the plant, every completed write and every reset leaves the plant fit; the statement about the
fans, the queue and the zone filters. -/

namespace Sys2Proof.Machine

/-! ## The events at lines and timers -/

section Events
variable {env : Env} (hc : ∀ p, (env.store.point p).InRange)

/-- A chain of updates from a plant with the records of a fit one ends in a fit one. -/
theorem fit_of_moves (hc : ∀ p, (env.store.point p).InRange) {a b c : Ev} (F : a.plant.Fit env.store)
    (h : a.plant.UnitsKept b.plant) (m : Moves env True b c) : c.plant.Fit env.store :=
  m.keeps_fit hc (F.unitsKept h)

theorem limitFilterTakes_moves (env : Env) (Q : Prop) (p : Point) (i : LimitInput) (d : Damper) (f : Filter)
    (ev : Ev) : Moves env Q ev (limitFilterTakes env p i d f ev) := by
  unfold limitFilterTakes
  dsimp only
  split
  · exact .seq (.damper ..)
  · exact moveDamper_moves env Q ..

theorem damperLine_moves (env : Env) (Q : Prop) (p : Point) (i : LimitInput) (level : Level) (d : Damper) (ev : Ev) :
    Moves env Q ev (damperLine env p i level d ev) := by
  unfold damperLine
  split
  · exact limitFilterTakes_moves ..
  · exact .refl

theorem limitTimerOut_moves (env : Env) (Q : Prop) (p : Point) (i : LimitInput) (ev : Ev) :
    Moves env Q ev (limitTimerOut p i env ev) := by
  unfold limitTimerOut
  split
  · exact .refl
  · split
    · exact limitFilterTakes_moves ..
    · exact .refl

theorem strokeTimerOut_moves (env : Env) (Q : Prop) (p : Point) (ev : Ev) :
    Moves env Q ev (strokeTimerOut p env ev) := by
  unfold strokeTimerOut
  split
  · exact .refl
  · split
    · exact moveDamper_moves env Q ..
    · exact .refl

theorem supplyTripOne_moves (env : Env) (Q : Prop) (ev : Ev) (q : Point) :
    Moves env Q ev (supplyTripOne env ev q) := by
  unfold supplyTripOne
  split
  · exact .refl
  · rename_i f h
    split
    · rename_i he; exact .seq (.runDown q h he)
    · exact .refl

theorem setLine_fan? {ev : Ev} {p : Point} {f : Fan} (h : (ev.plant.chan p).unit = .fan f) (i : LimitInput) (level : Level) :
    (ev.setChan p ((ev.plant.chan p).setLine i level)).plant.fan? p = some f := by
  rw [Plant.fan?_eq_some, Ev.setChan_plant, Plant.chan_setChan_self, ← h]
  cases i <;> rfl

theorem setOverrides_unitsKept (ps : List Point) (ev : Ev) :
    ev.plant.UnitsKept (ps.foldl (fun ev p => setOverride p .auto ev) ev).plant := by
  induction ps generalizing ev with
  | nil => exact .refl _
  | cons p ps ih =>
    have k : ev.plant.UnitsKept (setOverride p .auto ev).plant := Plant.unitsKept_setChan rfl rfl
    exact k.trans (ih _)

theorem resolveReleased_moves (env : Env) (Q : Prop) (ev : Ev) (p : Point) :
    Moves env Q ev (resolveReleased env ev p) := (resolvePoint_moves env Q false ev p).trans (settleAll_moves env Q _)

section Fit
variable {ev : Ev} (F : ev.plant.Fit env.store)
include F

theorem gateTimerOut_fit (hc : ∀ p, (env.store.point p).InRange) (p : Point) :
    (gateTimerOut p env ev).plant.Fit env.store := by
  unfold gateTimerOut
  split
  · exact F
  · rename_i f h
    split
    · rename_i he
      simp only [Bool.and_eq_true] at he
      exact putFan_fit F h ((F.fans p f h).windowEnds (hc p) he.1)
    · exact F

theorem proofLimitOut_fit (p : Point) : (proofLimitOut p env ev).plant.Fit env.store := by
  unfold proofLimitOut
  split
  · exact F
  · rename_i f h
    split
    · rename_i hs
      exact putFan_fit F h ((F.fans p f h).toFault (by simp) (by rw [hs.1]; rfl))
    · exact F

theorem runDownEnds_fit (p : Point) : (runDownEnds env p ev).plant.Fit env.store := by
  unfold runDownEnds
  split
  · exact F
  · rename_i f h
    split
    · rename_i hs; exact putFan_fit F h ((F.fans p f h).afterRunDown hs)
    · exact F

theorem runDownTimerOut_fit (p : Point) : (runDownTimerOut p env ev).plant.Fit env.store := by
  unfold runDownTimerOut
  split
  · exact F
  · split
    · exact runDownEnds_fit F p
    · exact F

theorem boundaryOut_fit (hc : ∀ p, (env.store.point p).InRange) (p : Point) :
    (boundaryOut p env ev).plant.Fit env.store := by
  unfold boundaryOut
  split
  · exact F
  · rename_i f h
    split
    · rename_i he; exact putFan_fit F h ((F.fans p f h).boundary (hc p) he)
    · exact F

theorem driveFilterTakes_fit {p : Point} {f : Fan} (h : ev.plant.fan? p = some f) (g : Filter) :
    (driveFilterTakes env p f g ev).plant.Fit env.store := by
  have k := F.fans p f h
  unfold driveFilterTakes
  dsimp only
  split
  · rename_i he
    simp only [Bool.and_eq_true] at he
    obtain ⟨h1, h2, h3, h4, h5, h6⟩ := ({ f with fbbFilt := g } : Fan).deEnergise_atRest
    refine putFan_fit F h (Fan.AtRest.tableSound ⟨h1, h2, h3, h4, h5, h6⟩ rfl ?_ (by simp [Fan.toFault]))
    exact k.runDown_of_ne (by rintro e; rw [e] at he; cases he.2)
  · exact putFan_fit F h (k.norm_of_same rfl rfl rfl rfl rfl rfl)

theorem driveLine_fit {p : Point} {f : Fan} (h : ev.plant.fan? p = some f) (level : Level) :
    (driveLine env p level f ev).plant.Fit env.store := by
  unfold driveLine
  split
  · exact driveFilterTakes_fit F h _
  · exact F

theorem driveTimerOut_fit (p : Point) : (driveTimerOut p env ev).plant.Fit env.store := by
  unfold driveTimerOut
  split
  · exact F
  · rename_i f h
    split
    · exact driveFilterTakes_fit F h _
    · exact F

theorem countEdge_fit (p : Point) : (countEdge p ev).plant.Fit env.store := by
  unfold countEdge
  split
  · exact F
  · rename_i f h
    split
    · exact setFan_fit F h rfl (F.fans p f h).edge
    · exact F

theorem setLine_fit (p : Point) (i : LimitInput) (level : Level) :
    (ev.setChan p ((ev.plant.chan p).setLine i level)).plant.Fit env.store := by
  refine F.unitsKept (Plant.unitsKept_setChan ?_ ?_) <;> cases i <;> rfl

theorem feedbackLine_fit (hc : ∀ p, (env.store.point p).InRange) (p : Point) (i : LimitInput) (level : Level) :
    (feedbackLine p i level env ev).plant.Fit env.store := by
  have k := setLine_fit F p i level
  unfold feedbackLine
  dsimp only
  split
  · exact F
  · split <;> rename_i hu
    · exact k
    · exact (damperLine_moves ..).keeps_fit hc k
    · split
      · split
        · exact countEdge_fit k p
        · exact k
      · exact driveLine_fit k (setLine_fan? hu .fbb level) level

theorem risingEdge_fit (hc : ∀ p, (env.store.point p).InRange) (p : Point) :
    (risingEdge p env ev).plant.Fit env.store := by
  unfold risingEdge
  dsimp only
  split
  · exact countEdge_fit (setLine_fit F p .fba .high) p
  · exact feedbackLine_fit F hc p .fba .high

/-- A change of the scheduler that leaves the queue, or of the supply monitor. -/
theorem withSched_fit {g : Scheduler → Scheduler} (hq : (g ev.plant.sched).queue = ev.plant.sched.queue) :
    (ev.withSched g).plant.Fit env.store := F.congr F.kinds (fun _ => rfl) hq

theorem withSupply_fit (g : Supply → Supply) : (ev.withSupply g).plant.Fit env.store :=
  F.congr F.kinds (fun _ => rfl) rfl

theorem testPendingLimit_fit : ev.testPendingLimit.plant.Fit env.store := by
  refine F.congr (fun q => ?_) (fun q => ?_) (testPendingLimit_queue ev)
  · rw [testPendingLimit_chan]; exact F.kinds q
  · simp only [Plant.fan?, testPendingLimit_chan]

theorem spacingOut_fit : (spacingOut env ev).plant.Fit env.store := by
  unfold spacingOut
  split
  · rw [Ev.evaluateIf_plant]
    exact withSched_fit F (by rfl)
  · exact F

theorem supplyTrip_fit (hc : ∀ p, (env.store.point p).InRange) : (supplyTrip env ev).plant.Fit env.store := by
  have k := (foldl_moves _ (supplyTripOne_moves env True) allPoints ev).keeps_fit hc F
  unfold supplyTrip
  generalize allPoints.foldl (supplyTripOne env) ev = x at k ⊢
  exact testPendingLimit_fit (withSched_fit k (by rfl))

theorem supplyActivity_fit (hc : ∀ p, (env.store.point p).InRange) (active : Bool) :
    (supplyActivity env active ev).plant.Fit env.store := by
  unfold supplyActivity
  split
  · rw [Ev.evaluateIf_plant]; exact supplyTrip_fit (withSupply_fit F _) hc
  · rw [Ev.evaluateIf_plant]; exact withSupply_fit F _
  · rw [Ev.evaluateIf_plant]; exact withSupply_fit F _
  · exact F

theorem supplyFilterTakes_fit (hc : ∀ p, (env.store.point p).InRange) (g : Filter) :
    (supplyFilterTakes env g ev).plant.Fit env.store := by
  unfold supplyFilterTakes
  dsimp only
  split
  · exact withSupply_fit F _
  · exact supplyActivity_fit (withSupply_fit F _) hc _

theorem supfailLine_fit (hc : ∀ p, (env.store.point p).InRange) (level : Level) :
    (supfailLine level env ev).plant.Fit env.store := by
  unfold supfailLine
  dsimp only
  split
  · exact F
  · exact supplyFilterTakes_fit (withSupply_fit F _) hc _

theorem supfailTimerOut_fit (hc : ∀ p, (env.store.point p).InRange) :
    (supfailTimerOut env ev).plant.Fit env.store := by
  unfold supfailTimerOut
  dsimp only
  split
  · exact supplyFilterTakes_fit F hc _
  · exact F

theorem settleTimerOut_fit : (settleTimerOut env ev).plant.Fit env.store := by
  unfold settleTimerOut
  dsimp only
  split
  · rw [Ev.evaluateIf_plant]; exact withSupply_fit F _
  · exact F

theorem joiningReportTaken_fit (hc : ∀ p, (env.store.point p).InRange) :
    (joiningReportTaken env ev).plant.Fit env.store := by
  unfold joiningReportTaken
  split
  · exact F
  · exact (takeJoinReport_moves env True _ _).keeps_fit hc (F.congr F.kinds (fun _ => rfl) rfl)

/-! ## The events of orders -/

theorem allOverridesAuto_fit (hc : ∀ p, (env.store.point p).InRange) :
    (allOverridesAuto env ev).plant.Fit env.store :=
  fit_of_moves hc F (setOverrides_unitsKept _ ev)
    ((draw_moves env True _).trans (foldl_moves _ (resolveReleased_moves env True) _ _))

theorem resetFan_fit {p : Point} {f : Fan} (h : ev.plant.fan? p = some f) (hs : f.state = .fault) :
    (resetFan p f env ev).plant.Fit env.store := by
  have k := F.fans p f h
  have k1 := putFan_fit F h (k.resetTo hs (.inl rfl))
  unfold resetFan
  dsimp only
  split
  · exact putFan_fit k1 (putFan_fan?_self env _ h) (k.resetTo hs (.inr rfl))
  · exact k1

theorem setNormal_fit (hc : ∀ p, (env.store.point p).InRange) (p : Point) (a : Action) :
    (setNormal p a env ev).plant.Fit env.store := by
  have k : ev.plant.UnitsKept (ev.setChan p { ev.plant.chan p with normal := a }).plant :=
    Plant.unitsKept_setChan rfl rfl
  unfold setNormal
  dsimp only
  split
  · exact fit_of_moves hc F k (resolvePoint_moves env True false _ p)
  · exact F.unitsKept k

theorem setMode_resolveAll_fit (hc : ∀ p, (env.store.point p).InRange) (m : Mode) :
    (resolveAll env false (ev.setMode m)).plant.Fit env.store :=
  fit_of_moves hc F (b := ev.setMode m) ⟨fun _ => ⟨rfl, rfl⟩, rfl, rfl⟩ (resolveAll_moves env True false _)

end Fit

/-- A resolution leaves the test record. -/
theorem resolveInOrder_test (env : Env) (b : Bool) (ps : List Point) (ev : Ev) :
    (resolveInOrder env b ps ev).plant.test = ev.plant.test := by
  unfold resolveInOrder
  induction ps generalizing ev with
  | nil => rfl
  | cons p ps ih => rw [List.foldl_cons, ih, resolvePoint_test]

theorem storeAllLastFire_test (env : Env) (ev : Ev) : (storeAllLastFire env ev).plant.test = ev.plant.test := by
  unfold storeAllLastFire
  induction allPoints generalizing ev with
  | nil => rfl
  | cons p ps ih =>
    rw [List.foldl_cons, ih]
    unfold storeLastFire
    split
    · rfl
    · split <;> rfl

theorem resolveAll_test (env : Env) (b : Bool) (ev : Ev) : (resolveAll env b ev).plant.test = ev.plant.test := by
  unfold resolveAll
  dsimp only
  rw [resolveInOrder_test, Ev.draw_test, storeAllLastFire_test]

theorem beginTest_fit (hc : ∀ p, (env.store.point p).InRange) {ev : Ev} (F : ev.plant.Fit env.store)
    (first count : Nat) : (beginTest first count env ev).plant.Fit env.store := by
  unfold beginTest
  dsimp only
  refine (beginSteps_moves env True ?_ count first).keeps_fit hc ?_
  · rw [resolveAll_test]; rfl
  · have k (g : TestRecord → TestRecord) : (ev.withTest g).plant.Fit env.store :=
      F.congr F.kinds (fun _ => rfl) rfl
    exact setMode_resolveAll_fit (k _) hc .test

theorem abortTest_unitsKept (ev : Ev) : ev.plant.UnitsKept (abortTest ev).plant := by
  unfold abortTest
  split
  · exact ⟨fun _ => ⟨rfl, rfl⟩, rfl, rfl⟩
  · rename_i p _
    have k : ev.plant.UnitsKept (ev.setChan p { ev.plant.chan p with testDemand := none }).plant :=
      Plant.unitsKept_setChan rfl rfl
    exact k.trans ⟨fun _ => ⟨rfl, rfl⟩, rfl, rfl⟩

theorem haltTest_fit (hc : ∀ p, (env.store.point p).InRange) {ev : Ev} (F : ev.plant.Fit env.store) :
    (haltTest env ev).plant.Fit env.store :=
  setMode_resolveAll_fit (F.unitsKept (abortTest_unitsKept ev)) hc .normal

/-- The report of the alarm list keeps the plant fit. -/
theorem listReport_fit (hc : ∀ p, (env.store.point p).InRange) {ev : Ev} (F : ev.plant.Fit env.store) :
    (listReport env ev).plant.Fit env.store := by
  refine fit_of_moves hc F ?_ (listReport_moves env True ev)
  have k : ev.plant.UnitsKept
      (if ev.plant.mode = .test ∧ modeAfterReport ev.plant.mode env.alarms.isEmpty = .fire then abortTest ev
      else ev).plant := by
    split
    · exact abortTest_unitsKept ev
    · exact .refl _
  exact k.trans ⟨fun _ => ⟨rfl, rfl⟩, rfl, rfl⟩

/-- Every event of the plant keeps it fit. -/
theorem PlantEvent.keeps_fit {s : State} (hc : ∀ p, (s.store.point p).InRange) {g : Env → Ev → Ev}
    (e : PlantEvent s g) (F : s.plant.Fit s.store) : (g s.env (.start s.plant)).plant.Fit s.store := by
  have F : (Ev.start s.plant).plant.Fit s.env.store := F
  have hc : ∀ p, (s.env.store.point p).InRange := hc
  cases e with
  | limitTimer p i => exact (limitTimerOut_moves ..).keeps_fit hc F
  | strokeTimer p => exact (strokeTimerOut_moves ..).keeps_fit hc F
  | gateTimer p => exact gateTimerOut_fit F hc p
  | proofLimit p => exact proofLimitOut_fit F p
  | runDownTimer p => exact runDownTimerOut_fit F p
  | boundary p => exact boundaryOut_fit F hc p
  | driveTimer p => exact driveTimerOut_fit F p
  | spacing => exact spacingOut_fit F
  | supfailTimer => exact supfailTimerOut_fit F hc
  | settleTimer => exact settleTimerOut_fit F
  | joining => exact joiningReportTaken_fit F hc
  | feedback p i level => exact feedbackLine_fit F hc p i level
  | edge p => exact risingEdge_fit F hc p
  | supfail level => exact supfailLine_fit F hc level
  | override p v _ =>
    exact fit_of_moves hc F (b := setOverride p v (.start s.plant)) (Plant.unitsKept_setChan rfl rfl)
      (resolvePoint_moves s.env True false _ p)
  | allAuto => exact allOverridesAuto_fit F hc
  | clearFault p d _ => exact (Moves.seq (.damper ..)).keeps_fit hc F
  | resetFan p f h hf => exact resetFan_fit F (Plant.fan?_eq_some.mpr h) hf
  | setNormal p a _ => exact setNormal_fit F hc p a
  | beginTest first count _ _ _ => exact beginTest_fit hc F first count
  | haltTest _ => exact haltTest_fit hc F
  | commission _ => exact setMode_resolveAll_fit F hc .commission
  | decommission _ => exact setMode_resolveAll_fit F hc .normal

end Events

end Sys2Proof.Machine
end

section
/-! SUPPORT. The store's ranges, a point re-initialised, a count, and a device reset; then the statement about the fans,
the start queue and the zone filters. -/

namespace Sys2Proof.Machine

/-! ## The store's ranges (R166) -/

theorem within_eq_some {lo hi n m : Nat} : within lo hi n = some m ↔ m = n ∧ lo ≤ n ∧ n ≤ hi := by
  unfold within
  split
  · rename_i h; simp [h, eq_comm]
  · rename_i h; simp [h]

/-- A field written is in its range. -/
theorem PointCfg.setField_inRange {c c' : PointCfg} {field v : Nat} (h : c.InRange)
    (e : c.setField field v = some c') : c'.InRange := by
  unfold PointCfg.setField at e
  split at e
  -- the choices and the path entries have no range of InRange
  iterate 10 · obtain ⟨x, -, rfl⟩ := Option.map_eq_some_iff.mp e; exact h
  iterate 12
    · obtain ⟨x, hx, rfl⟩ := Option.map_eq_some_iff.mp e
      obtain ⟨rfl, h1, h2⟩ := within_eq_some.mp hx
      simp only [PointCfg.InRange] at h ⊢
      omega
  · cases e

theorem ZoneCfg.setField_inRange {c c' : ZoneCfg} {field v : Nat} (h : c.tZF ≤ 15)
    (e : c.setField field v = some c') : c'.tZF ≤ 15 := by
  unfold ZoneCfg.setField at e
  split at e
  · obtain ⟨x, -, rfl⟩ := Option.map_eq_some_iff.mp e; exact h
  · obtain ⟨x, -, rfl⟩ := Option.map_eq_some_iff.mp e; exact h
  · obtain ⟨x, hx, rfl⟩ := Option.map_eq_some_iff.mp e
    obtain ⟨rfl, -, h2⟩ := within_eq_some.mp hx
    exact h2
  · cases e

theorem DeviceCfg.setField_inRange {c c' : DeviceCfg} {field v : Nat} (h : c.InRange)
    (e : c.setField field v = some c') : c'.InRange := by
  unfold DeviceCfg.setField at e
  split at e
  case h_5 => cases e
  all_goals
    obtain ⟨x, hx, rfl⟩ := Option.map_eq_some_iff.mp e
    obtain ⟨rfl, h1, h2⟩ := within_eq_some.mp hx
    simp only [DeviceCfg.InRange] at h ⊢
    omega

/-- Every numeric field of a store holds a value of its range. -/
structure Store.InRange (st : Store) : Prop where
  points : ∀ p, (st.point p).InRange
  zones : ∀ z, (st.zone z).tZF ≤ 15
  device : st.device.InRange

theorem storeInRange_iff (s : State) : s.StoreInRange ↔ s.store.InRange :=
  ⟨fun ⟨h1, h2, h3⟩ => ⟨h1, h2, h3⟩, fun h => ⟨h.points, h.zones, h.device⟩⟩

theorem Store.point_setPoint (st : Store) (p q : Point) (c : PointCfg) :
    ({ st with points := st.points.set p c } : Store).point q = if q = p then c else st.point q := by
  by_cases e : q = p
  · subst e; simp [Store.point]
  · have e' : p.val ≠ q.val := fun x => e (Fin.ext x.symm)
    simp [Store.point, e, e']

theorem Store.zone_setZone (st : Store) (z y : Zone) (c : ZoneCfg) :
    ({ st with zones := st.zones.set z c } : Store).zone y = if y = z then c else st.zone y := by
  by_cases e : y = z
  · subst e; simp [Store.zone]
  · have e' : z.val ≠ y.val := fun x => e (Fin.ext x.symm)
    simp [Store.zone, e, e']

/-- A completed write leaves every point record but its own. -/
theorem WriteTarget.apply_point_ne {st : Store} {w : WriteTarget} {q : Point}
    (h : ∀ p field v, w = .point p field v → q ≠ p) : (w.apply st).point q = st.point q := by
  cases w with
  | point p field v =>
    simp only [WriteTarget.apply]
    split
    · rw [Store.point_setPoint, if_neg (h p field v rfl)]
    · rfl
  | zone z field v => simp only [WriteTarget.apply]; split <;> rfl
  | scenario z p e => rfl
  | device field v => simp only [WriteTarget.apply]; split <;> rfl

/-- A completed write keeps the store within its ranges. -/
theorem WriteTarget.apply_inRange {st : Store} (h : st.InRange) (w : WriteTarget) : (w.apply st).InRange := by
  cases w with
  | point p field v =>
    simp only [WriteTarget.apply]
    split
    · rename_i c e
      refine ⟨fun q => ?_, h.zones, h.device⟩
      rw [Store.point_setPoint]
      split
      · exact PointCfg.setField_inRange (h.points p) e
      · exact h.points q
    · exact h
  | zone z field v =>
    simp only [WriteTarget.apply]
    split
    · rename_i c e
      refine ⟨h.points, fun y => ?_, h.device⟩
      rw [Store.zone_setZone]
      split
      · exact ZoneCfg.setField_inRange (h.zones z) e
      · exact h.zones y
    · exact h
  | scenario z p e => exact ⟨h.points, h.zones, h.device⟩
  | device field v =>
    simp only [WriteTarget.apply]
    split
    · rename_i c e; exact ⟨h.points, h.zones, DeviceCfg.setField_inRange h.device e⟩
    · exact h

/-! ## A point re-initialised (R73, R102) -/

theorem Equipment.afterReset_kind (c : PointCfg) (ch : Channel) : (Equipment.afterReset c ch).kind = c.kind := by
  unfold Equipment.afterReset
  split <;> rename_i h <;> rw [h] <;> rfl

/-- A fan record after reset is that of R101, and not QUEUED. -/
theorem Equipment.afterReset_fan {c : PointCfg} {ch : Channel} {f : Fan}
    (h : Equipment.afterReset c ch = .fan f) : f = .afterReset c ch.fbb ∧ f.state ≠ .queued := by
  unfold Equipment.afterReset at h
  split at h <;> cases h
  refine ⟨rfl, ?_⟩
  show (if c.tRD = 0 then FanState.idle else .runDown) ≠ .queued
  split <;> simp

theorem oldFanLeaves_chan (n : Nat) (p : Point) (old : Equipment) (ev : Ev) (q : Point) :
    (oldFanLeaves n p old ev).plant.chan q = ev.plant.chan q := by
  unfold oldFanLeaves
  split
  · split
    · rfl
    · split
      · exact unitsReturned_chan ..
      · rfl
  · rfl

theorem unitsReturned_queue (n : Nat) (ev : Ev) : (ev.unitsReturned n).plant.sched.queue = ev.plant.sched.queue :=
  (testPendingLimit_queue _).trans rfl

/-- The place of a fan's old record in the queue is given up. -/
theorem oldFanLeaves_queue (n : Nat) (p : Point) (old : Equipment) (ev : Ev) :
    (oldFanLeaves n p old ev).plant.sched.queue =
      match old with
      | .fan f => if f.state = .queued then ev.plant.sched.queue.filter (· != p) else ev.plant.sched.queue
      | _ => ev.plant.sched.queue := by
  cases old with
  | unused => rfl
  | damper d => rfl
  | fan f =>
    unfold oldFanLeaves
    dsimp only
    split
    · rfl
    · split
      · exact unitsReturned_queue ..
      · rfl

/-- A store that differs at one point. -/
def Store.SameBut (p : Point) (st st' : Store) : Prop := ∀ q, q ≠ p → st'.point q = st.point q

theorem queueOrder_congr {st st' : Store} {p a b : Point} (h : st.SameBut p st') (ha : a ≠ p) (hb : b ≠ p) :
    queueOrder st' a b ↔ queueOrder st a b := by unfold queueOrder; rw [h a ha, h b hb]

/-- The channels once a point has its new record and its old record has left the queue. -/
theorem oldFanLeaves_reinitialised_chan (n : Nat) (p : Point) (c : PointCfg) (ev : Ev) (q : Point) :
    (oldFanLeaves n p (ev.plant.chan p).unit
      ((ev.setChan p ((ev.plant.chan p).reinitialised c)).mark p)).plant.chan q =
      if q = p then (ev.plant.chan p).reinitialised c else ev.plant.chan q := by
  rw [oldFanLeaves_chan]; exact Plant.chan_setChan ..

theorem Plant.not_isQueued_of_not_fan {pl : Plant} {p : Point} (h : ∀ f, (pl.chan p).unit ≠ .fan f) :
    ¬pl.isQueued p = true := fun m => by
  obtain ⟨f, hf, -⟩ := Plant.isQueued_iff.mp m
  exact h f (Plant.fan?_eq_some.mp hf)

/-- Of a fit queue, the point of an old record has left, and the others stay. -/
theorem oldFanLeaves_reinitialised_queue {st : Store} (n : Nat) (p : Point) (c : PointCfg) {ev : Ev}
    (F : ev.plant.QueueFit st) :
    (oldFanLeaves n p (ev.plant.chan p).unit
      ((ev.setChan p ((ev.plant.chan p).reinitialised c)).mark p)).plant.sched.queue =
      ev.plant.sched.queue.filter (· != p) := by
  have stays (h : p ∉ ev.plant.sched.queue) : ev.plant.sched.queue = ev.plant.sched.queue.filter (· != p) :=
    (List.filter_eq_self.mpr fun q hq => by simpa using fun e : q = p => h (e ▸ hq)).symm
  rw [oldFanLeaves_queue]
  cases hu : (ev.plant.chan p).unit with
  | fan f =>
    dsimp only
    split
    · rfl
    · rename_i hs; exact stays fun m => hs ((F.queue_iff (Plant.fan?_eq_some.mpr hu)).mp m)
  | unused => exact stays fun m => Plant.not_isQueued_of_not_fan (by simp [hu]) ((F.mem p).mp m)
  | damper d => exact stays fun m => Plant.not_isQueued_of_not_fan (by simp [hu]) ((F.mem p).mp m)

/-- The queue is fit, under the new store, once a point has its new record. -/
theorem oldFanLeaves_queueFit {st st' : Store} {p : Point} (hst : st.SameBut p st') {ev : Ev}
    (F : ev.plant.QueueFit st) (n : Nat) :
    (oldFanLeaves n p (ev.plant.chan p).unit
      ((ev.setChan p ((ev.plant.chan p).reinitialised (st'.point p))).mark p)).plant.QueueFit st' := by
  have chan := oldFanLeaves_reinitialised_chan n p (st'.point p) ev
  have queue := oldFanLeaves_reinitialised_queue n p (st'.point p) F
  generalize oldFanLeaves n p (ev.plant.chan p).unit
    ((ev.setChan p ((ev.plant.chan p).reinitialised (st'.point p))).mark p) = x at chan queue ⊢
  refine ⟨fun q => ?_, ?_⟩ <;> rw [queue]
  · by_cases e : q = p
    · subst e
      refine ⟨fun m => by simp at m, fun m => ?_⟩
      obtain ⟨f, hf, hs⟩ := Plant.isQueued_iff.mp m
      rw [Plant.fan?_eq_some, chan, if_pos rfl] at hf
      exact absurd hs (Equipment.afterReset_fan hf).2
    · have fan : x.plant.fan? q = ev.plant.fan? q := by simp only [Plant.fan?, chan, if_neg e]
      rw [List.mem_filter, F.mem, Plant.isQueued, Plant.isQueued, fan]
      simp [e]
  · refine (F.order.sublist List.filter_sublist).imp_of_mem fun {a b} ha hb h => ?_
    have ne {y : Point} (hy : y ∈ ev.plant.sched.queue.filter (· != p)) : y ≠ p := by simpa using (List.mem_filter.mp hy).2
    exact (queueOrder_congr hst (ne ha) (ne hb)).mpr h

/-- The plant once a point has its new record and its old record has left the queue. -/
theorem oldFanLeaves_fit {st st' : Store} {p : Point} (hst : st.SameBut p st') {ev : Ev} (F : ev.plant.Fit st)
    (n : Nat) :
    (oldFanLeaves n p (ev.plant.chan p).unit
      ((ev.setChan p ((ev.plant.chan p).reinitialised (st'.point p))).mark p)).plant.Fit st' := by
  have chan := oldFanLeaves_reinitialised_chan n p (st'.point p) ev
  refine ⟨oldFanLeaves_queueFit hst F.toQueueFit n, fun q => ?_, fun q f h => ?_⟩
  · by_cases e : q = p
    · subst e; rw [chan, if_pos rfl]; exact Equipment.afterReset_kind ..
    · rw [chan, if_neg e, F.kinds q, Store.kind, Store.kind, hst q e]
  · rw [Plant.fan?_eq_some, chan] at h
    by_cases e : q = p
    · subst e
      rw [if_pos rfl] at h
      obtain ⟨rfl, -⟩ := Equipment.afterReset_fan h
      exact Fan.afterReset_tableSound ..
    · rw [if_neg e] at h; rw [hst q e]; exact F.fans q f (Plant.fan?_eq_some.mpr h)

theorem damperSideFollows_moves (env : Env) (Q : Prop) (p : Point) (old new : Equipment) (ev : Ev) :
    Moves env Q ev (damperSideFollows env p old new ev) := by
  have trips : Moves env Q ev ((tripPathFans env p ev).evaluateIf true) :=
    (tripPathFans_moves env Q p ev).trans (evaluateIf_moves env Q true _)
  unfold damperSideFollows
  split
  · split
    · exact trips
    · exact .refl
  · exact trips
  · exact evaluateIf_moves env Q true ev
  · exact .refl

/-- What a re-initialisation brings once the point has its new record. -/
theorem reinitialise_moves (n : Nat) (p : Point) (env : Env) (Q : Prop) (ev : Ev) :
    Moves env Q
      (oldFanLeaves n p (ev.plant.chan p).unit
        ((ev.setChan p ((ev.plant.chan p).reinitialised (env.store.point p))).mark p))
      (reinitialise n p env ev) := by
  unfold reinitialise
  dsimp only
  have release (b : Bool) (x : Ev) : Moves env Q x (if b then releaseWaiting env x else x) := by
    split
    · exact releaseWaiting_moves env Q x
    · exact .refl
  exact (damperSideFollows_moves ..).trans
    ((release _ _).trans ((resolvePoint_moves env Q true _ p).trans (reportIf_moves env Q _ _ _)))

theorem reinitialise_fit {env : Env} (hc : ∀ p, (env.store.point p).InRange) {st : Store} {p : Point}
    (hst : st.SameBut p env.store) {ev : Ev} (F : ev.plant.Fit st) (n : Nat) :
    (reinitialise n p env ev).plant.Fit env.store :=
  (reinitialise_moves n p env True ev).keeps_fit hc (oldFanLeaves_fit hst F n)

/-! ## The machine's acts -/

theorem State.runEvent_fit {s : State} (hc : ∀ p, (s.store.point p).InRange) {g : Env → Ev → Ev}
    (F : (g s.env (.start s.plant)).plant.Fit s.store) : (s.runEvent g).plant.Fit s.store := by
  rw [State.runEvent_plant]
  exact finishEvent_fit (env := s.env) hc F

theorem zonesFollow_fit {s t : State} (hc : ∀ p, (t.store.point p).InRange) (F : t.plant.Fit t.store) :
    (zonesFollow s t).plant.Fit t.store := by
  by_cases e : s.alarms = t.alarms
  · rw [zonesFollow_of_list_eq e]; exact F
  · rw [zonesFollow_of_list_ne e]
    exact State.runEvent_fit (s := { t with ports := _ }) hc
      (listReport_fit (env := t.env) hc (ev := .start t.plant) F)

theorem Plant.Fit.store_congr {st st' : Store} {pl : Plant} (F : pl.Fit st) (h : ∀ p, st'.point p = st.point p) :
    pl.Fit st' where
  mem := F.mem
  order := F.order.imp fun {a b} x => by unfold queueOrder at *; rwa [h, h]
  kinds p := by rw [F.kinds p, Store.kind, Store.kind, h]
  fans p f k := by rw [h]; exact F.fans p f k

theorem completeWrite_store (w : WriteTarget) (s : State) : (completeWrite w s).store = w.apply s.store := by
  unfold completeWrite writeTakesEffect
  cases w with
  | point p field v => rfl
  | zone z field v => dsimp only; rw [zonesFollow_store, activityEvent_store]
  | scenario z p e => rfl
  | device field v => dsimp only; split <;> rfl

theorem newLimit_fit {st : Store} {ev : Ev} (F : ev.plant.Fit st) (n : Nat) : (ev.newLimit n).plant.Fit st := by
  unfold Ev.newLimit
  split
  · rw [Ev.evaluateIf_plant]; exact F.congr F.kinds (fun _ => rfl) rfl
  · exact F.congr F.kinds (fun _ => rfl) rfl

/-- A completed write keeps the plant fit, under the new store. -/
theorem completeWrite_fit {s : State} (h : s.store.InRange) (F : s.plant.Fit s.store) (w : WriteTarget) :
    (completeWrite w s).plant.Fit (w.apply s.store) := by
  have hc := (w.apply_inRange h).points
  have same (hw : ∀ p field v, w ≠ .point p field v) : s.plant.Fit (w.apply s.store) :=
    F.store_congr fun q => WriteTarget.apply_point_ne fun p field v e => absurd e (hw p field v)
  unfold completeWrite writeTakesEffect
  cases w with
  | point p field v =>
    let t : State := { s with store := (WriteTarget.point p field v).apply s.store, write := none }
    refine State.runEvent_fit (s := t) hc ?_
    refine reinitialise_fit (env := t.env) hc (st := s.store) (ev := .start s.plant) (fun q hq => ?_) F _
    exact WriteTarget.apply_point_ne fun p' _ _ e => by cases e; exact hq
  | zone z field v =>
    let t : State := { s with store := (WriteTarget.zone z field v).apply s.store, write := none }
    have e : (activityEvent (s.active z) z t).store = (WriteTarget.zone z field v).apply s.store :=
      activityEvent_store ..
    have F' : (activityEvent (s.active z) z t).plant.Fit (activityEvent (s.active z) z t).store := by
      rw [activityEvent_plant, e]; exact same (by simp)
    have k := zonesFollow_fit (s := s) (e ▸ hc) F'
    rwa [e] at k
  | scenario z p e => exact same (by simp)
  | device field v =>
    dsimp only
    split
    · exact State.runEvent_fit (s := { s with store := _, write := none }) hc (newLimit_fit (same (by simp)) v)
    · exact same (by simp)

theorem State.countPasses_chan (s : State) (p : Point) : s.countPasses.plant.chan p = (s.plant.chan p).tick :=
  foldl_set_getElem (fun _ (ch : Channel) => ch.tick) s.plant.chans p

theorem State.countPasses_fan? (s : State) (p : Point) :
    s.countPasses.plant.fan? p = (s.plant.fan? p).map Fan.tick := by
  simp only [Plant.fan?, State.countPasses_chan, Channel.fan?, Channel.tick]
  cases (s.plant.chan p).unit <;> rfl

theorem countPasses_fit {s : State} (F : s.plant.Fit s.store) : s.countPasses.plant.Fit s.store where
  kinds p := by
    rw [State.countPasses_chan, ← F.kinds p]
    simp only [Channel.tick]
    cases (s.plant.chan p).unit <;> rfl
  fans p f h := by
    rw [State.countPasses_fan?] at h
    obtain ⟨o, ho, rfl⟩ := Option.map_eq_some_iff.mp h
    exact (F.fans p o ho).tick
  mem p := by
    refine (F.mem p).trans ?_
    rw [Plant.isQueued, Plant.isQueued, State.countPasses_fan?]
    cases s.plant.fan? p <;> rfl
  order := F.order

/-! ## Device reset -/

theorem resetChannels_chan (st : Store) (v : Vector Channel 64) (p : Point) :
    (resetChannels st v)[p] = (v[p]).atReset (st.point p) :=
  foldl_set_getElem (fun (p : Point) (ch : Channel) => ch.atReset (st.point p)) v p

theorem Plant.atReset_chan (st : Store) (b : Bool) (pl : Plant) (p : Point) :
    (pl.atReset st b).chan p = (pl.chan p).atReset (st.point p) := resetChannels_chan st pl.chans p

/-- Every block in its after-reset state is fit: the queue is empty and no fan is QUEUED. -/
theorem Plant.atReset_fit (st : Store) (b : Bool) (pl : Plant) : (pl.atReset st b).Fit st where
  kinds p := by rw [Plant.atReset_chan]; exact Equipment.afterReset_kind ..
  fans p f h := by
    rw [Plant.fan?_eq_some, Plant.atReset_chan] at h
    obtain ⟨rfl, -⟩ := Equipment.afterReset_fan h
    exact Fan.afterReset_tableSound ..
  mem p := by
    refine ⟨fun m => absurd m List.not_mem_nil, fun m => ?_⟩
    obtain ⟨f, hf, hs⟩ := Plant.isQueued_iff.mp m
    rw [Plant.fan?_eq_some, Plant.atReset_chan] at hf
    exact absurd hs (Equipment.afterReset_fan hf).2
  order := .nil

theorem endWriteByReset_inRange {s : State} (h : s.store.InRange) : (endWriteByReset s).store.InRange := by
  unfold endWriteByReset
  split
  · exact h
  · rename_i w _
    dsimp only
    split
    · exact w.target.apply_inRange h
    · exact h

theorem State.linesReset_store (s : State) : s.linesReset.store = (endWriteByReset s).store := by
  rw [State.linesReset]

theorem State.blocksReset_plant (s : State) :
    s.blocksReset.plant =
      s.linesReset.plant.atReset s.linesReset.store (!(rebuiltList s.linesReset).isEmpty) := by
  rw [State.blocksReset]

theorem deviceResetEnds_fit {s : State} (h : s.store.InRange) :
    (deviceResetEnds s).plant.Fit (deviceResetEnds s).store := by
  have hs : s.blocksReset.store.InRange := by
    rw [State.blocksReset_store, State.linesReset_store]; exact endWriteByReset_inRange h
  rw [deviceResetEnds_plant, deviceResetEnds_store]
  refine State.runEvent_fit hs.points ?_
  refine (resolveAll_moves s.blocksReset.env True true (.start s.blocksReset.plant)).keeps_fit hs.points ?_
  show s.blocksReset.plant.Fit s.blocksReset.store
  rw [State.blocksReset_plant, State.blocksReset_store]
  exact Plant.atReset_fit ..

/-! ## The statement -/

/-- A machine whose store is within its ranges and whose plant, outside device reset, is fit. -/
def State.FitSound (s : State) : Prop := s.store.InRange ∧ (s.held = false → s.plant.Fit s.store)

theorem fitSound_iff (s : State) :
    s.FitSound ↔ s.StoreInRange ∧ s.KindsSound ∧ s.FansSound ∧ s.QueueSound := by
  rw [storeInRange_iff]
  refine and_congr_right fun _ => ⟨fun h => ⟨fun x => (h x).kinds, fun x => (h x).fans, fun x => ?_⟩, fun h x => ?_⟩
  · exact ⟨(h x).mem, (h x).order⟩
  · obtain ⟨hk, hf, hq⟩ := h
    exact ⟨⟨(hq x).1, (hq x).2⟩, hk x, hf x⟩

theorem Act.keeps_fitSound {s t : State} (a : Act s t) (h : s.FitSound) : t.FitSound := by
  obtain ⟨hr, hf⟩ := h
  have heldOf {u : State} (hh : s.held = true) (e : u.held = s.held) (hs : u.store = s.store) : u.FitSound :=
    ⟨hs ▸ hr, fun x => absurd (x.symm.trans (e.trans hh)) (by simp)⟩
  have follows {u : State} (hs : u.store = s.store) (hp : u.plant = s.plant) (hh : s.held = false) :
      (zonesFollow s u).FitSound := by
    have F := hf hh
    rw [← hs, ← hp] at F
    rw [← hs] at hr
    exact ⟨by rw [zonesFollow_store]; exact hr, fun _ => by rw [zonesFollow_store]; exact zonesFollow_fit hr.points F⟩
  cases a with
  | pending q => exact ⟨hr, hf⟩
  | ports ps => exact ⟨hr, hf⟩
  | draws n => exact ⟨hr, fun x => (hf x).congr (hf x).kinds (fun _ => rfl) rfl⟩
  | count hh =>
    refine ⟨?_, fun _ => ?_⟩ <;> rw [State.countPasses_store]
    · exact hr
    · exact countPasses_fit (hf hh)
  | event hh hg => exact ⟨hr, fun _ => State.runEvent_fit hr.points (hg.keeps_fit hr.points (hf hh))⟩
  | zoneLine z l hh hi _ => exact follows (activityEvent_store ..) (activityEvent_plant ..) hh
  | list hh hl => exact follows rfl rfl hh
  | isolate z hh hz => exact follows rfl rfl hh
  | rejoin z hh hz => exact follows rfl rfl hh
  | write w hh hm => exact ⟨hr, hf⟩
  | writeDone w hh hw =>
    refine ⟨?_, fun _ => ?_⟩ <;> rw [completeWrite_store]
    · exact w.target.apply_inRange hr
    · exact completeWrite_fit hr (hf hh) w.target
  | heldZone z level hh => exact heldOf hh rfl rfl
  | heldFeedback p i level hh => exact heldOf hh rfl rfl
  | heldSupfail level hh => exact heldOf hh rfl rfl

theorem deviceResetBegins_store (s : State) : (deviceResetBegins s).store = (endWriteByReset s).store := by
  rw [deviceResetBegins]

theorem deviceResetBegins_held (s : State) : (deviceResetBegins s).held = true := by rw [deviceResetBegins]

/-- Every act keeps each zone filter PENDING exactly while its levels differ (Table 1-3). -/
theorem Act.keeps_zoneFilters {s t : State} (a : Act s t) (h : s.ZoneFiltersSound) : t.ZoneFiltersSound := by
  have same {u : State} (e : u.held = s.held) (hz : u.zones = s.zones) : u.ZoneFiltersSound := by
    intro x y
    simp only [State.zone, hz]
    exact h (e.symm.trans x) y
  have put {u : State} {z : Zone} {l : ZoneLine} (e : u.held = s.held) (hz : u.zones = (s.setZone z l).zones)
      (hl : s.held = false → l.filter.timer.isRunning = (l.raw != l.filter.filtered)) : u.ZoneFiltersSound := by
    intro x y
    have e' := e.symm.trans x
    have k : u.zone y = (s.setZone z l).zone y := by simp only [State.zone, hz]
    rw [k]
    by_cases ey : y = z
    · subst ey; rw [State.zone_setZone_self]; exact hl e'
    · rw [State.zone_setZone_ne s l ey]; exact h e' y
  cases a with
  | pending q => exact same rfl rfl
  | ports ps => exact same rfl rfl
  | draws n => exact same rfl rfl
  | count hh =>
    intro _ y
    rw [State.countPasses_zone]
    exact (Timer.isRunning_tick _).trans (h hh y)
  | event hh hg => exact same rfl rfl
  | zoneLine z l hh hi hp =>
    exact put (by rw [zoneFilterTakes, zonesFollow_held, activityEvent_held]; rfl)
      (by rw [zoneFilterTakes, zonesFollow_zones, activityEvent_zones]) fun _ => hp
  | list hh hl => exact same (by rw [listBecomes, zonesFollow_held]) (by rw [listBecomes, zonesFollow_zones])
  | isolate z hh hz =>
    exact put (z := z) (l := { s.zone z with isolated := true }) (by rw [zonesFollow_held]; rfl)
      (by rw [zonesFollow_zones]) fun x => h x z
  | rejoin z hh hz =>
    exact put (z := z) (l := { s.zone z with isolated := false }) (by rw [zonesFollow_held]; rfl)
      (by rw [zonesFollow_zones]) fun x => h x z
  | write w hh hm => exact same rfl rfl
  | writeDone w hh hw => exact same (completeWrite_held ..) (completeWrite_zones ..)
  | heldZone z level hh => exact fun x => absurd (x.symm.trans hh) (by simp)
  | heldFeedback p i level hh => exact same rfl rfl
  | heldSupfail level hh => exact same rfl rfl

theorem deviceResetEnds_zoneFilters (s : State) : (deviceResetEnds s).ZoneFiltersSound := by
  intro _ z
  rw [deviceResetEnds_zone, State.blocksReset_zone]
  simp [ZoneLine.afterReset, Filter.settled]

/-- Settles O34: every act of a step keeps the plant fit and the zone filters sound, and the end of a reset leaves them
so whatever was before. -/
theorem fansAndZoneFiltersStaySound : Obligations.FansAndZoneFiltersStaySound := by
  refine ⟨fun s t h e => ?_, fun s t h e => ?_⟩
  · rw [← fitSound_iff] at h ⊢
    refine step_keeps (P := State.FitSound) (fun _ _ a k => a.keeps_fitSound k) (fun s k => ⟨?_, fun _ => ?_⟩)
      (fun s k => ⟨?_, fun x => ?_⟩) h e
    · rw [deviceResetEnds_store, State.blocksReset_store, State.linesReset_store]
      exact endWriteByReset_inRange k.1
    · exact deviceResetEnds_fit k.1
    · rw [deviceResetBegins_store]; exact endWriteByReset_inRange k.1
    · rw [deviceResetBegins_held] at x; cases x
  · refine step_keeps (P := fun s : State => s.ZoneFiltersSound) (fun _ _ a k => a.keeps_zoneFilters k)
      (fun s _ => deviceResetEnds_zoneFilters s) (fun s _ x => ?_) h e
    rw [deviceResetBegins_held] at x; cases x

end Sys2Proof.Machine
end

section
/-! SUPPORT. What an event tells the panels, and the mode that a report of the alarm list leaves: every point whose demand
changes is marked, the zones that R18 names are marked and no other, and a list that is not empty puts the device in FIRE.
Then the statements about the zone lines' timers and about the orders of the alarm list. -/

namespace Sys2Proof.Machine

/-! ## Demands and marks (R24, R145) -/

/-- Marks stand, and every FAN or DAMPER point whose resolved demand is not as it was is marked. -/
def Ev.DemandsTold (env : Env) (a b : Ev) : Prop :=
  a.marks ⊆ b.marks ∧
    ∀ p, env.store.kind p ≠ .unused → (b.plant.chan p).resolved ≠ (a.plant.chan p).resolved → p ∈ b.marks

theorem Ev.DemandsTold.refl (env : Env) (a : Ev) : a.DemandsTold env a := ⟨fun _ h => h, fun _ _ h => absurd rfl h⟩

theorem Ev.DemandsTold.trans {env : Env} {a b c : Ev} (h : a.DemandsTold env b) (k : b.DemandsTold env c) :
    a.DemandsTold env c := by
  refine ⟨fun _ x => k.1 (h.1 x), fun p hp hne => ?_⟩
  by_cases e : (b.plant.chan p).resolved = (a.plant.chan p).resolved
  · exact k.2 p hp (e ▸ hne)
  · exact k.1 (h.2 p hp e)

theorem Ev.demandsTold_of_same {env : Env} {a b : Ev} (hm : a.marks ⊆ b.marks)
    (h : ∀ p, (b.plant.chan p).resolved = (a.plant.chan p).resolved) : a.DemandsTold env b :=
  ⟨hm, fun p _ hne => absurd (h p) hne⟩

/-- A channel replaced by one with the same demand. -/
theorem Plant.resolved_setChan {pl : Plant} {p : Point} {c : Channel} (h : c.resolved = (pl.chan p).resolved)
    (q : Point) : ((pl.setChan p c).chan q).resolved = (pl.chan q).resolved := by
  rw [Plant.chan_setChan]
  split
  · rename_i e; subst e; exact h
  · rfl

theorem SeqUpd.onward {env : Env} {Q : Prop} {a b : Ev} (u : SeqUpd env Q a b) : a.Onward b := by
  cases u with
  | damper p d => exact putDamper_onward ..
  | fan p h hf => exact putFan_onward ..
  | runDown p h he => exact enterRunDown_onward ..
  | wait p r h hq => exact Ev.onward_of_eq rfl rfl rfl
  | start p h hq => exact putFan_onward ..

theorem SeqUpd.sequencersOnly {env : Env} {Q : Prop} {a b : Ev} (u : SeqUpd env Q a b) :
    a.plant.SequencersOnly b.plant := u.frame sequencersOnly_frame

/-- Every update tells the demands it changes: only the resolver's hand-over changes one, and it marks its point. -/
theorem Upd.demandsTold {env : Env} {Q : Prop} {a b : Ev} (u : Upd env Q a b) : a.DemandsTold env b := by
  cases u with
  | seq u => exact Ev.demandsTold_of_same u.onward.1 fun p => by rw [u.sequencersOnly.2.2.2.2.2 p]
  | res u =>
    cases u with
    | book hp hm _ => exact Ev.demandsTold_of_same hm fun p => by rw [hp]; rfl
    | lastFire p hk h => exact Ev.demandsTold_of_same (fun _ x => x) (Plant.resolved_setChan rfl)
    | noDemand p hk =>
      refine ⟨fun _ x => x, fun q hq hne => absurd ?_ hne⟩
      rw [Ev.setChan_plant, Plant.chan_setChan_ne _ _ (by rintro rfl; exact hq hk)]
    | demand p hk =>
      refine ⟨fun _ x => List.mem_cons_of_mem _ x, fun q _ hne => ?_⟩
      by_cases e : q = p
      · rw [e]; exact List.mem_cons_self
      · rw [Ev.mark_plant, Ev.setChan_plant, Plant.chan_setChan_ne _ _ e] at hne
        exact absurd rfl hne
    | testDemand p x h => exact Ev.demandsTold_of_same (fun _ x => x) (Plant.resolved_setChan rfl)
    | _ => exact Ev.demandsTold_of_same (fun _ x => x) fun _ => rfl

theorem Moves.demandsTold {env : Env} {Q : Prop} {a b : Ev} (m : Moves env Q a b) : a.DemandsTold env b :=
  m.keeps (P := fun x => a.DemandsTold env x) (fun _ _ u h => h.trans u.demandsTold) (.refl env a)

/-- An event that tells its demands to its own books marks them in the ports. -/
theorem State.runEvent_demandsMarked {g : Env → Ev → Ev} {s : State}
    (h : (Ev.start s.plant).DemandsTold s.env (g s.env (.start s.plant))) : s.DemandsMarked (s.runEvent g) := by
  intro p hk hne
  have k := h.trans (finishEvent_moves s.env False _ False.elim).demandsTold
  exact State.runEvent_pointMarked g s p (k.2 p hk hne)

theorem abortTest_resolved (ev : Ev) (p : Point) :
    ((abortTest ev).plant.chan p).resolved = (ev.plant.chan p).resolved := by
  unfold abortTest
  split
  · rfl
  · rename_i q _
    exact Plant.resolved_setChan (pl := ev.plant) (p := q) (c := { ev.plant.chan q with testDemand := none }) rfl p

theorem listReport_demandsTold (env : Env) (ev : Ev) : ev.DemandsTold env (listReport env ev) := by
  refine .trans (Ev.demandsTold_of_same ?_ fun p => ?_) (listReport_moves env False ev).demandsTold
  · split
    · unfold abortTest; split <;> exact fun _ x => x
    · exact fun _ x => x
  · split
    · exact abortTest_resolved ev p
    · rfl

/-- The end of an event at the zones marks every point whose demand it changes. -/
theorem zonesFollow_demandsMarked (s t : State) : t.DemandsMarked (zonesFollow s t) := by
  by_cases e : s.alarms = t.alarms
  · rw [zonesFollow_of_list_eq e]
    exact fun p _ h => absurd rfl h
  · rw [zonesFollow_of_list_ne e]
    exact State.runEvent_demandsMarked (s := { t with ports := _ }) (listReport_demandsTold _ _)

/-! ## The marks of zones (R18) -/

theorem listPosition_eq (z : Zone) (l : List AlarmEntry) : listPosition z l = (l.map AlarmEntry.zone).idxOf? z := by
  simp [listPosition, List.idxOf?, List.findIdx?_map, Function.comp_def]

/-- A zone is marked exactly if its activity, isolation flag or list position is not as it was. -/
theorem zoneChanged_iff (s t : State) (z : Zone) :
    zoneChanged s t z = true ↔
      t.active z ≠ s.active z ∨ (t.zone z).isolated ≠ (s.zone z).isolated ∨
        (t.alarms.map AlarmEntry.zone).idxOf? z ≠ (s.alarms.map AlarmEntry.zone).idxOf? z := by
  simp only [zoneChanged, listPosition_eq, Bool.or_eq_true, bne_iff_ne, or_assoc]
  exact or_congr ne_comm (or_congr ne_comm ne_comm)

/-- The zone change sets after the end of an event at the zones: the changed zones have joined. -/
theorem zonesFollow_port_zones (s t : State) (i : PortId) (z : Zone) :
    ((zonesFollow s t).port i).zones[z] = ((t.port i).zones[z] || zoneChanged s t z) := by
  have hz : (changedZones s t).contains z = zoneChanged s t z := by
    rw [Bool.eq_iff_iff, List.contains_iff_mem]
    simp [changedZones, allZones]
  have h : ((t.ports.markAll [] (changedZones s t)).get i).zones[z] = ((t.port i).zones[z] || zoneChanged s t z) := by
    rw [Ports.get_markAll, ← hz]
    exact addMembers_getElem ..
  by_cases e : s.alarms = t.alarms
  · rw [zonesFollow_of_list_eq e]; exact h
  · rw [zonesFollow_of_list_ne e]
    show ((State.runEvent _ _).ports.get i).zones[z] = _
    rw [State.runEvent_ports, Ports.get_markAll]
    exact h

/-- What R18 names is read off the list, the lines and the store, which the end of an event at the zones leaves. -/
theorem zoneChanged_zonesFollow (s r t : State) (z : Zone) : zoneChanged s (zonesFollow r t) z = zoneChanged s t z := by
  simp only [zoneChanged, zonesFollow_active, zonesFollow_zone, zonesFollow_alarms]

/-- Zone change sets that the changed zones have joined are marked exactly. -/
theorem State.zoneMarksExact_of {s t : State}
    (h : ∀ (j : PortId) (z : Zone), (t.port j).zones[z] = ((s.port j).zones[z] || zoneChanged s t z)) :
    s.ZoneMarksExact t := by
  intro z
  dsimp only
  rw [← zoneChanged_iff]
  refine ⟨fun k j => ?_, fun k j => ?_⟩ <;> rw [h]
  · rw [k, Bool.or_true]
  · rw [Bool.not_eq_true] at k; rw [k, Bool.or_false]

/-! ## The mode that the list gives (R40, R41) -/

/-- FIRE with no test running: no update leaves it. -/
def Ev.FireSteady (ev : Ev) : Prop := ev.plant.mode = .fire ∧ ev.plant.test.state ≠ .running

theorem Upd.keeps_fireSteady {env : Env} {Q : Prop} {a b : Ev} (u : Upd env Q a b) (h : a.FireSteady) :
    b.FireSteady := by
  obtain ⟨hm, ht⟩ := h
  cases u with
  | seq u => exact ⟨u.sequencersOnly.1.trans hm, by rw [u.sequencersOnly.2.1]; exact ht⟩
  | res u =>
    cases u with
    | book hp _ _ => exact ⟨by rw [hp]; exact hm, by rw [hp]; exact ht⟩
    | test g h hg => exact absurd h ht
    | testDone h => exact absurd h ht
    | restored h => rw [hm] at h; cases h
    | _ => exact ⟨hm, ht⟩

theorem Moves.fireSteady {env : Env} {Q : Prop} {a b : Ev} (m : Moves env Q a b) (h : a.FireSteady) :
    b.FireSteady := m.keeps (fun _ _ u => u.keeps_fireSteady) h

theorem abortTest_not_running (ev : Ev) : (abortTest ev).plant.test.state ≠ .running := by
  unfold abortTest; split <;> simp

/-- A report of a list that is not empty leaves FIRE with no test running, if a test runs in TEST only. -/
theorem listReport_fireSteady {env : Env} {ev : Ev} (hl : env.alarms ≠ [])
    (ht : ev.plant.test.state = .running → ev.plant.mode = .test) : (listReport env ev).FireSteady := by
  have e : modeAfterReport ev.plant.mode env.alarms.isEmpty = .fire := by
    simp [modeAfterReport, hl]
  refine (listReport_moves env False ev).fireSteady ⟨e, ?_⟩
  show (if ev.plant.mode = .test ∧ _ then abortTest ev else ev).plant.test.state ≠ .running
  split
  · exact abortTest_not_running ev
  · rename_i h; exact fun r => h ⟨ht r, e⟩

/-- The end of an event at the zones that leaves a list that is not empty leaves FIRE. -/
theorem zonesFollow_fire {s t : State} (hm : s.ModeSound) (hp : t.plant = s.plant) (hl : t.alarms ≠ []) :
    (zonesFollow s t).plant.mode = .fire := by
  by_cases e : s.alarms = t.alarms
  · rw [zonesFollow_of_list_eq e]
    show t.plant.mode = .fire
    rw [hp]
    exact hm.1.mpr (e ▸ hl)
  · rw [zonesFollow_of_list_ne e, State.runEvent_plant]
    refine ((finishEvent_moves _ False _ False.elim).fireSteady (listReport_fireSteady hl ?_)).1
    show t.plant.test.state = .running → t.plant.mode = .test
    rw [hp]
    exact hm.2.mp

/-! ## Orders answered DONE -/

/-- The machine with a DONE reply at the port of an order that was in progress. -/
def State.replied (i : PortId) (o : Order) (s : State) : State :=
  s.setPort i { (s.port i).withReply .done o.b1 o.b2 o.b3 with inProgress := none }

/-- The machine as the decoder finds it: the order is in progress at its port. -/
abbrev State.taking (i : PortId) (o : Order) (s : State) : State :=
  s.setPort i { s.port i with inProgress := some o }

theorem State.replied_points (i j : PortId) (o : Order) (s : State) :
    ((s.replied i o).port j).points = (s.port j).points := by
  by_cases e : j = i
  · subst e; simp [State.replied, PortRec.withReply]
  · rw [State.replied, State.port_setPort_ne s _ e]

theorem State.replied_zones (i j : PortId) (o : Order) (s : State) :
    ((s.replied i o).port j).zones = (s.port j).zones := by
  by_cases e : j = i
  · subst e; simp [State.replied, PortRec.withReply]
  · rw [State.replied, State.port_setPort_ne s _ e]

theorem State.taking_zones (i j : PortId) (o : Order) (s : State) :
    ((s.taking i o).port j).zones = (s.port j).zones := by
  by_cases e : j = i
  · subst e; simp
  · rw [State.port_setPort_ne s _ e]

/-- Markings made while the order was in progress stand beside its reply. -/
theorem PortRec.Marked.replied {r x : PortRec} {o : Order} (hr : r.inProgress = none)
    (h : ({ r with inProgress := some o } : PortRec).Marked x) (c : ReplyCode) (b1 b2 b3 : Byte) :
    (r.withReply c b1 b2 b3).Marked { x.withReply c b1 b2 b3 with inProgress := none } := by
  refine ⟨?_, h.2.1, h.2.2⟩
  have e := h.1
  rcases r with ⟨a, w, pr, out, rp, ld, ov, un, sh, rs, ps, zs⟩
  simp only at hr
  subst hr
  rw [e]
  rfl

theorem State.replied_answered {i : PortId} {o : Order} {s t : State} (h : s.PortAtRest i)
    (hm : (s.taking i o).PortsMarked t) : s.Answered (t.replied i o) i .done o.b1 o.b2 o.b3 := by
  intro j
  have k := hm j
  by_cases e : j = i
  · subst e
    rw [State.withReply, State.port_setPort_self, State.replied, State.port_setPort_self]
    rw [State.port_setPort_self] at k
    exact PortRec.Marked.replied h.2.2.2.1 k _ _ _ _
  · rw [State.port_setPort_ne s _ e] at k
    rw [State.withReply, State.port_setPort_ne s _ e, State.replied, State.port_setPort_ne t _ e]
    exact k

/-- An order that its block answers DONE. -/
theorem exec_done {k : OrderKind} {i : PortId} {b1 b2 b3 : Byte} {s t : State} (h : s.PortAtRest i)
    (ha : portAllowed k i = true)
    (hd : runOrder k i ⟨k.code, b1, b2, b3⟩ (s.taking i ⟨k.code, b1, b2, b3⟩) = done ⟨k.code, b1, b2, b3⟩ t) :
    exec (orderCommand k i b1 b2 b3) s = .next (t.replied i ⟨k.code, b1, b2, b3⟩) := by
  rw [exec_orderCommand k i b1 b2 b3 h.1, deliverOrder_atRest _ h, decodeOrder_allowed b1 b2 b3 _ ha, hd]
  rfl

/-- An order that its block refuses. -/
theorem exec_refused {k : OrderKind} {i : PortId} {b1 b2 b3 : Byte} {s : State} {c : ReplyCode} (h : s.PortAtRest i)
    (ha : portAllowed k i = true)
    (hd : runOrder k i ⟨k.code, b1, b2, b3⟩ (s.taking i ⟨k.code, b1, b2, b3⟩) =
      refuse c ⟨k.code, b1, b2, b3⟩ (s.taking i ⟨k.code, b1, b2, b3⟩)) :
    exec (orderCommand k i b1 b2 b3) s = .next (s.withReply i c b1 b2 b3) := by
  rw [exec_orderCommand k i b1 b2 b3 h.1]
  exact congrArg _ (deliverOrder_reply h ((decodeOrder_allowed b1 b2 b3 _ ha).trans hd))

section ListEvents
variable {i : PortId} {o : Order} {s u : State}

/-- The zones in the change sets once an order is answered whose event ends at `u`: the changed zones have joined. -/
theorem replied_zoneMarks_of_event (j : PortId) (z : Zone) :
    (((zonesFollow (s.taking i o) u).replied i o).port j).zones[z] = ((u.port j).zones[z] || zoneChanged s u z) := by
  simp only [State.replied_zones, zonesFollow_port_zones]
  rfl

theorem replied_zoneMarks (hp : u.ports = (s.taking i o).ports) (j : PortId) (z : Zone) :
    (((zonesFollow (s.taking i o) u).replied i o).port j).zones[z] =
      ((s.port j).zones[z] || zoneChanged s u z) := by
  have e : (u.port j).zones = (s.port j).zones := by
    rw [State.port, hp]; exact State.taking_zones i j o s
  simp only [replied_zoneMarks_of_event, e]

theorem replied_zoneMarksExact (hp : u.ports = (s.taking i o).ports) :
    s.ZoneMarksExact ((zonesFollow (s.taking i o) u).replied i o) := by
  refine State.zoneMarksExact_of fun j z => ?_
  rw [replied_zoneMarks hp]
  exact congrArg _ (zoneChanged_zonesFollow s (s.taking i o) u z).symm

theorem replied_zoneMarked (hp : u.ports = (s.taking i o).ports) {z : Zone} (h : zoneChanged s u z = true) :
    ((zonesFollow (s.taking i o) u).replied i o).ZoneMarked z := fun j => by
  rw [replied_zoneMarks hp, h, Bool.or_true]

theorem replied_demandsMarked (hu : u.plant = s.plant) :
    s.DemandsMarked ((zonesFollow (s.taking i o) u).replied i o) := by
  intro p hk hne j
  rw [State.replied_points]
  refine zonesFollow_demandsMarked (s.taking i o) u p hk ?_ j
  rw [hu]
  exact hne

theorem replied_entriesKept (hu : u.plant = s.plant) :
    s.plant.EntriesKept ((zonesFollow (s.taking i o) u).replied i o).plant := by
  have k := zonesFollow_frame entriesKept_frame (s.taking i o) u
  rw [hu] at k
  exact k

theorem replied_portsMarked (h : s.PortAtRest i) (hp : (s.taking i o).PortsMarked u) :
    s.Answered ((zonesFollow (s.taking i o) u).replied i o) i .done o.b1 o.b2 o.b3 :=
  State.replied_answered h fun j => (hp j).trans (zonesFollow_portsMarked (s.taking i o) u j)

theorem State.portsMarked_of_eq {s t : State} (h : t.ports = s.ports) : s.PortsMarked t := by
  intro j
  have e : t.port j = s.port j := by rw [State.port, h]; rfl
  rw [e]
  exact PortRec.marked_refl _

/-- An order of the alarm list that is answered DONE, its event ending at `u`: the lines, the list and the store are
those of `u`, and the ports hold the reply and the marks of R18 and R24. -/
theorem exec_listOrder {k : OrderKind} {b1 b2 b3 : Byte} (h : s.PortAtRest i) (ha : portAllowed k i = true)
    (hd : runOrder k i ⟨k.code, b1, b2, b3⟩ (s.taking i ⟨k.code, b1, b2, b3⟩) =
      done ⟨k.code, b1, b2, b3⟩ (zonesFollow (s.taking i ⟨k.code, b1, b2, b3⟩) u))
    (hp : u.ports = (s.taking i ⟨k.code, b1, b2, b3⟩).ports) (hu : u.plant = s.plant) :
    ∃ t, exec (orderCommand k i b1 b2 b3) s = .next t ∧ s.Answered t i .done b1 b2 b3 ∧ t.zones = u.zones ∧
      t.alarms = u.alarms ∧ (∀ z, zoneChanged s u z = true → t.ZoneMarked z) ∧
      (s.ModeSound → u.alarms ≠ [] → t.plant.mode = .fire) ∧ s.ZoneMarksExact t ∧ s.DemandsMarked t ∧
      s.plant.EntriesKept t.plant ∧ t.held = u.held ∧ t.store = u.store ∧ t.write = u.write ∧
      t.pending = u.pending :=
  ⟨_, exec_done h ha hd, replied_portsMarked (o := ⟨k.code, b1, b2, b3⟩) h (State.portsMarked_of_eq hp),
    zonesFollow_zones .., zonesFollow_alarms .., fun _ => replied_zoneMarked hp,
    fun hm => zonesFollow_fire (s := s.taking i ⟨k.code, b1, b2, b3⟩) hm hu, replied_zoneMarksExact hp,
    replied_demandsMarked hu, replied_entriesKept hu, zonesFollow_held .., zonesFollow_store ..,
    zonesFollow_write .., zonesFollow_pending ..⟩

end ListEvents

/-! ## ZALM (R13) -/

/-- A port arrival, by whether the zone is in the list (R13). -/
theorem portArrival_eq (z : Zone) (l : List AlarmEntry) :
    portArrival z l =
      if z ∈ l.map AlarmEntry.zone then l.map fun e => if e.zone = z then { e with latched := true } else e
      else l ++ [{ zone := z, origin := .port, latched := true }] := by
  unfold portArrival
  by_cases h : z ∈ l.map AlarmEntry.zone
  · rw [if_pos ((inList_iff z l).mpr h), if_pos h]; rfl
  · rw [if_neg fun x => h ((inList_iff z l).mp x), if_neg h]

theorem portArrival_ne_nil (z : Zone) (l : List AlarmEntry) : portArrival z l ≠ [] := by
  rw [portArrival_eq]
  split
  · rename_i h; rintro e; simp [List.map_eq_nil_iff.mp e] at h
  · simp

/-- Settles O6: the order's event is the end of an event at the zones with the zone's arrival in the list. -/
theorem zalmRaisesAlarm : Obligations.ZalmRaisesAlarm := by
  intro s z b2 b3 h
  let o : Order := ⟨OrderKind.zalm.code, byte z.val, b2, b3⟩
  refine ⟨fun hz => ?_, fun hz hm => ?_⟩
  · refine exec_refused (k := .zalm) h rfl ?_
    show orderZalm .a o (s.taking .a o) = _
    unfold orderZalm
    simp only [o, zoneOf_byte, State.setPort_zone, hz, if_true]
  · have hd : runOrder .zalm .a o (s.taking .a o) = done o (zonesFollow (s.taking .a o)
        { s.taking .a o with alarms := portArrival z s.alarms }) := by
      show orderZalm .a o (s.taking .a o) = _
      unfold orderZalm
      simp only [o, zoneOf_byte, State.setPort_zone, hz, Bool.false_eq_true, if_false]
      rfl
    obtain ⟨t, e, hans, hzones, hlist, -, hmode, hmarks, hdem, hent, hheld, hst, hw, hpend⟩ :=
      exec_listOrder h rfl hd rfl rfl
    exact ⟨t, e, hans, hlist.trans (portArrival_eq z s.alarms), hmode hm (portArrival_ne_nil _ _), hmarks, hdem, hent,
      hheld, hzones, hst, hw, hpend⟩

end Sys2Proof.Machine
end

section
/-! SUPPORT. The orders FZON, ZISO, ZRIN and ARST, and the running-out of a zone's filter timer. -/

namespace Sys2Proof.Machine

/-! ## FZON (R14) -/

theorem firefighterZone_absent {z : Zone} {l : List AlarmEntry} (h : z ∉ l.map AlarmEntry.zone) :
    firefighterZone z l = { zone := z, origin := .firefighter, latched := true } :: l := by
  have e : entryOf z l = none := by
    simp only [entryOf, List.find?_eq_none, beq_iff_eq]
    exact fun x hx hz => h (hz ▸ List.mem_map_of_mem hx)
  simp [firefighterZone, e]

/-- The zone of the entry `e` leads, and the others keep their order. -/
theorem firefighterZone_present {a b : List AlarmEntry} {e : AlarmEntry}
    (h : ((a ++ e :: b).map AlarmEntry.zone).Nodup) :
    firefighterZone e.zone (a ++ e :: b) = { e with latched := true } :: (a ++ b) := by
  have others := zone_ne_of_split h
  have hf : entryOf e.zone (a ++ e :: b) = some e := by
    have ha : a.find? (fun x => x.zone == e.zone) = none :=
      List.find?_eq_none.mpr fun x hx => by simpa using others x (List.mem_append_left b hx)
    simp [entryOf, List.find?_append, ha]
  have keep (x : List AlarmEntry) (hx : ∀ y ∈ x, y ∈ a ++ b) : x.filter (fun y => y.zone != e.zone) = x :=
    List.filter_eq_self.mpr fun y hy => by simpa using others y (hx y hy)
  have ka := keep a fun y hy => List.mem_append_left b hy
  have kb := keep b fun y hy => List.mem_append_right a hy
  simp [firefighterZone, hf, removeZone, ka, kb]

/-- Settles O7: the order's event is the end of an event at the zones with the zone first in the list. -/
theorem fzonLeads : Obligations.FzonLeads := by
  intro s z b2 b3 h
  let o : Order := ⟨OrderKind.fzon.code, byte z.val, b2, b3⟩
  refine ⟨fun hz => ?_, fun hz hn => ?_⟩
  · refine exec_refused (k := .fzon) h rfl ?_
    show orderFzon .f o (s.taking .f o) = _
    unfold orderFzon
    simp only [o, zoneOf_byte, State.setPort_zone, hz, if_true]
  · have hd : runOrder .fzon .f o (s.taking .f o) = done o (zonesFollow (s.taking .f o)
        { s.taking .f o with alarms := firefighterZone z s.alarms }) := by
      show orderFzon .f o (s.taking .f o) = _
      unfold orderFzon
      simp only [o, zoneOf_byte, State.setPort_zone, hz, Bool.false_eq_true, if_false]
      rfl
    obtain ⟨t, e, hans, hzones, hlist, -, -, hmarks, hdem, hent, hheld, hst, hw, hpend⟩ :=
      exec_listOrder h rfl hd rfl rfl
    refine ⟨t, e, hans, fun hx => hlist.trans (firefighterZone_absent hx), ?_, hmarks, hdem, hent, hheld, hzones, hst,
      hw, hpend⟩
    rintro a b e' hl rfl
    rw [hl] at hn hlist
    exact hlist.trans (firefighterZone_present hn)

/-! ## ZISO and ZRIN (R6, R7) -/

/-- A zone whose isolation flag is not as it was has changed. -/
theorem zoneChanged_of_isolated {s t : State} {z : Zone} (h : (t.zone z).isolated ≠ (s.zone z).isolated) :
    zoneChanged s t z = true := (zoneChanged_iff s t z).mpr (.inr (.inl h))

/-- What ZISO leaves of the lines, the list and the reply. -/
theorem exec_ziso_of_not_isolated {s : State} {z : Zone} (b2 b3 : Byte) (h : s.PortAtRest .a)
    (hz : (s.zone z).isolated = false) :
    ∃ t, exec (.ziso .a (byte z.val) b2 b3) s = .next t ∧ s.Answered t .a .done (byte z.val) b2 b3 ∧
      t.zone z = { s.zone z with isolated := true } ∧ (∀ z', z' ≠ z → t.zone z' = s.zone z') ∧
      t.alarms = s.alarms.filter (fun e => e.zone ≠ z) ∧ t.ZoneMarked z ∧
      s.ZoneMarksExact t ∧ s.DemandsMarked t ∧ s.plant.EntriesKept t.plant ∧
      t.held = s.held ∧ t.store = s.store ∧ t.write = s.write ∧ t.pending = s.pending := by
  let o : Order := ⟨OrderKind.ziso.code, byte z.val, b2, b3⟩
  let l : ZoneLine := { s.zone z with isolated := true }
  have hd : runOrder .ziso .a o (s.taking .a o) = done o (zonesFollow (s.taking .a o)
      { (s.taking .a o).setZone z l with
        alarms := removeZone z s.alarms }) := by
    show orderZiso .a o (s.taking .a o) = _
    unfold orderZiso
    simp only [o, zoneOf_byte, State.setPort_zone, hz, Bool.false_eq_true, if_false]
    rfl
  obtain ⟨t, e, hans, hzones, hlist, hmarked, -, hmarks, hdem, hent, hheld, hst, hw, hpend⟩ :=
    exec_listOrder h rfl hd rfl rfl
  have zone (y : Zone) : t.zone y = (s.setZone z l).zone y := by rw [State.zone, hzones]; rfl
  refine ⟨t, e, hans, (zone z).trans (State.zone_setZone_self ..),
    fun y hy => (zone y).trans (State.zone_setZone_ne s l hy), ?_, hmarked z (zoneChanged_of_isolated ?_), hmarks, hdem,
    hent, hheld, hst, hw, hpend⟩
  · refine hlist.trans (List.filter_congr fun e _ => ?_)
    by_cases he : e.zone = z <;> simp [he]
  · show ((s.setZone z l).zone z).isolated ≠ _
    rw [State.zone_setZone_self, hz]
    simp [l]

/-- What ZRIN leaves of the lines, the list and the reply. -/
theorem exec_zrin_of_isolated {s : State} {z : Zone} (b2 b3 : Byte) (h : s.PortAtRest .a)
    (hz : (s.zone z).isolated = true) :
    ∃ t, exec (.zrin .a (byte z.val) b2 b3) s = .next t ∧ s.Answered t .a .done (byte z.val) b2 b3 ∧
      t.zone z = { s.zone z with isolated := false } ∧ (∀ z', z' ≠ z → t.zone z' = s.zone z') ∧
      t.alarms = (if s.active z then lineArrival (s.store.zone z).mode z s.alarms else s.alarms) ∧
      t.ZoneMarked z ∧ s.ZoneMarksExact t ∧ s.DemandsMarked t ∧ s.plant.EntriesKept t.plant ∧
      t.held = s.held ∧ t.store = s.store ∧ t.write = s.write ∧ t.pending = s.pending := by
  let o : Order := ⟨OrderKind.zrin.code, byte z.val, b2, b3⟩
  let l : ZoneLine := { s.zone z with isolated := false }
  have hd : runOrder .zrin .a o (s.taking .a o) = done o (zonesFollow (s.taking .a o)
      { (s.taking .a o).setZone z l with
        alarms := if s.active z then lineArrival (s.store.zone z).mode z s.alarms else s.alarms }) := by
    show orderZrin .a o (s.taking .a o) = _
    unfold orderZrin
    simp only [o, zoneOf_byte, State.setPort_zone, hz, if_true]
    rfl
  obtain ⟨t, e, hans, hzones, hlist, hmarked, -, hmarks, hdem, hent, hheld, hst, hw, hpend⟩ :=
    exec_listOrder h rfl hd rfl rfl
  have zone (y : Zone) : t.zone y = (s.setZone z l).zone y := by rw [State.zone, hzones]; rfl
  refine ⟨t, e, hans, (zone z).trans (State.zone_setZone_self ..),
    fun y hy => (zone y).trans (State.zone_setZone_ne s l hy), ?_, hmarked z (zoneChanged_of_isolated ?_), hmarks, hdem,
    hent, hheld, hst, hw, hpend⟩
  · exact hlist
  · show ((s.setZone z l).zone z).isolated ≠ _
    rw [State.zone_setZone_self, hz]
    simp [l]

/-- Settles O9: each order acts in one state of the zone's flag and is refused with STATE in the other. -/
theorem isolationAndReturn : Obligations.IsolationAndReturn := by
  intro s z b2 b3 h
  refine ⟨fun hz => ⟨?_, exec_zrin_of_isolated b2 b3 h hz⟩, fun hz => ⟨?_, exec_ziso_of_not_isolated b2 b3 h hz⟩⟩
  · refine exec_refused (k := .ziso) h rfl ?_
    show orderZiso .a _ _ = _
    unfold orderZiso
    simp only [zoneOf_byte, State.setPort_zone, hz, if_true]
  · refine exec_refused (k := .zrin) h rfl ?_
    show orderZrin .a _ _ = _
    unfold orderZrin
    simp only [zoneOf_byte, State.setPort_zone, hz, Bool.false_eq_true, if_false]

/-! ## ARST (R16) -/

/-- The zones that the second step of an alarm reset lets arrive. -/
def State.again (s : State) (z : Zone) : Bool :=
  !(s.zone z).isolated && (s.store.zone z).mode == .latch && s.active z

/-- The entry of a zone that arrives in the second step. -/
def AlarmEntry.realarmed (z : Zone) : AlarmEntry := { zone := z, origin := .line, latched := true }

/-- An entry latched where its zone is among those named. -/
def AlarmEntry.latchedIf (b : Zone → Bool) (e : AlarmEntry) : AlarmEntry :=
  { e with latched := e.latched || b e.zone }

theorem AlarmEntry.latchedIf_eq_self {b : Zone → Bool} {l : List AlarmEntry} (h : ∀ e ∈ l, b e.zone = false) :
    l.map (AlarmEntry.latchedIf b) = l :=
  (List.map_congr_left fun e he => by simp [AlarmEntry.latchedIf, h e he]).trans (List.map_id l)

/-- One zone's second step: its entries are latched, and it joins if it is absent. -/
theorem realarm_eq (s : State) (l : List AlarmEntry) (z : Zone) :
    realarm s l z =
      l.map (AlarmEntry.latchedIf fun y => s.again z && y == z) ++
        if s.again z && !(l.map AlarmEntry.zone).contains z then [.realarmed z] else [] := by
  show (if s.again z then lineArrival .latch z l else l) = _
  by_cases h : s.again z = true
  · rw [if_pos h, h]
    by_cases hz : z ∈ l.map AlarmEntry.zone
    · rw [lineArrival_present _ hz, if_neg (by simpa using hz), List.append_nil]
      exact List.map_congr_left fun e _ => by simp [AlarmEntry.latchedIf]
    · have e : l.map (AlarmEntry.latchedIf fun y => true && y == z) = l :=
        AlarmEntry.latchedIf_eq_self fun x hx => by
          have hne : x.zone ≠ z := fun hxz => hz (hxz ▸ List.mem_map_of_mem hx)
          simpa using hne
      rw [lineArrival_absent _ hz, if_pos (by simpa using hz), e]
      rfl
  · rw [Bool.not_eq_true] at h
    rw [h, AlarmEntry.latchedIf_eq_self (by simp)]
    simp

theorem AlarmEntry.latchedIf_zones (b : Zone → Bool) (l : List AlarmEntry) :
    (l.map (AlarmEntry.latchedIf b)).map AlarmEntry.zone = l.map AlarmEntry.zone := by
  rw [List.map_map]; rfl

theorem AlarmEntry.latchedIf_latchedIf (a b : Zone → Bool) (l : List AlarmEntry) :
    (l.map (AlarmEntry.latchedIf a)).map (AlarmEntry.latchedIf b) =
      l.map (AlarmEntry.latchedIf fun z => a z || b z) := by
  rw [List.map_map]
  exact List.map_congr_left fun e _ => by simp [AlarmEntry.latchedIf, Bool.or_assoc]

/-- The second step over zones each named once: entries of zones that are let arrive are latched in their places, and the
absent ones of these zones follow in the order named. -/
theorem realarm_foldl (s : State) (zs : List Zone) (hn : zs.Nodup) (l : List AlarmEntry) :
    zs.foldl (realarm s) l =
      l.map (AlarmEntry.latchedIf fun z => s.again z && zs.contains z) ++
        (zs.filter fun z => s.again z && !(l.map AlarmEntry.zone).contains z).map AlarmEntry.realarmed := by
  induction zs generalizing l with
  | nil => simp [AlarmEntry.latchedIf_eq_self]
  | cons z zs ih =>
    obtain ⟨hz, hn⟩ := List.nodup_cons.mp hn
    have latch (l : List AlarmEntry) : (l.map (AlarmEntry.latchedIf fun y => s.again z && y == z)).map
        (AlarmEntry.latchedIf fun y => s.again y && zs.contains y) =
          l.map (AlarmEntry.latchedIf fun y => s.again y && (z :: zs).contains y) := by
      rw [AlarmEntry.latchedIf_latchedIf]
      congr 2
      funext y
      by_cases e : y = z
      · subst e; cases s.again y <;> simp
      · simp [e]
    rw [List.foldl_cons, ih hn, realarm_eq]
    by_cases hj : (s.again z && !(l.map AlarmEntry.zone).contains z) = true
    · have others : zs.filter (fun y => s.again y && !((l.map AlarmEntry.zone) ++ [z]).contains y) =
          zs.filter fun y => s.again y && !(l.map AlarmEntry.zone).contains y :=
        List.filter_congr fun y hy => by
          have hne : y ≠ z := fun e => hz (e ▸ hy)
          simp [hne]
      have stays : [AlarmEntry.realarmed z].map (AlarmEntry.latchedIf fun y => s.again y && zs.contains y) =
          [.realarmed z] := by simp [AlarmEntry.latchedIf, AlarmEntry.realarmed]
      rw [if_pos hj, List.map_append, List.map_append, latch, stays, AlarmEntry.latchedIf_zones,
        List.filter_cons, if_pos hj, List.map_cons, List.append_assoc]
      exact congrArg _ (congrArg (AlarmEntry.realarmed z :: ·) (congrArg (List.map AlarmEntry.realarmed) others))
    · rw [if_neg hj, List.append_nil, latch, AlarmEntry.latchedIf_zones, List.filter_cons, if_neg hj]

/-- The list after an alarm reset (R16). -/
theorem alarmReset_eq (s : State) :
    alarmReset s =
      (s.alarms.filter fun e => !e.latched).map (AlarmEntry.latchedIf s.again) ++
        (allZones.filter fun z =>
          s.again z && !((s.alarms.filter fun e => !e.latched).map AlarmEntry.zone).contains z).map
          AlarmEntry.realarmed := by
  have h : (fun z => s.again z && allZones.contains z) = s.again := by
    funext z
    simp [allZones]
  rw [alarmReset, realarm_foldl s allZones (List.nodup_finRange 32), h]

theorem mem_removedByReset (s : State) (z : Zone) :
    (removedByReset s).contains z = true ↔ ∃ e ∈ s.alarms, e.zone = z ∧ e.latched = true := by
  rw [List.contains_iff_mem, removedByReset, List.mem_map]
  simp only [List.mem_filter]
  exact exists_congr fun e => by tauto

/-- Settles O8: the zones of the first step are marked before the event, and the event's end marks those whose position
is not as it was. -/
theorem arstTwoSteps : Obligations.ArstTwoSteps := by
  intro s b1 b2 b3 h
  let o : Order := ⟨OrderKind.arst.code, b1, b2, b3⟩
  let u : State :=
    { s.taking .a o with
      alarms := alarmReset s, ports := (s.taking .a o).ports.markAll [] (removedByReset s) }
  have hd : runOrder .arst .a o (s.taking .a o) = done o (zonesFollow (s.taking .a o) u) := rfl
  have hp : (s.taking .a o).PortsMarked u := fun j => by
    show ((s.taking .a o).ports.get j).Marked (((s.taking .a o).ports.markAll [] (removedByReset s)).get j)
    rw [Ports.get_markAll]
    exact PortRec.markAll_marked ..
  refine ⟨_, exec_done (k := .arst) h rfl hd, replied_portsMarked h hp, ?_, fun z => ?_, replied_demandsMarked rfl,
    replied_entriesKept rfl, zonesFollow_held .., zonesFollow_zones .., zonesFollow_store .., zonesFollow_write ..,
    zonesFollow_pending ..⟩
  · exact (zonesFollow_alarms ..).trans (alarmReset_eq s)
  · have hl : ((zonesFollow (s.taking .a o) u).replied .a o).alarms = u.alarms := zonesFollow_alarms ..
    have hc : zoneChanged s u z = true ↔
        (u.alarms.map AlarmEntry.zone).idxOf? z ≠ (s.alarms.map AlarmEntry.zone).idxOf? z := by
      rw [zoneChanged_iff]
      exact ⟨fun x => x.elim (fun y => absurd rfl y) fun x => x.elim (fun y => absurd rfl y) id,
        fun x => .inr (.inr x)⟩
    have marks (j : PortId) : (((zonesFollow (s.taking .a o) u).replied .a o).port j).zones[z] =
        ((s.port j).zones[z] || ((removedByReset s).contains z || zoneChanged s u z)) := by
      have e : (u.port j).zones[z] = ((s.port j).zones[z] || (removedByReset s).contains z) := by
        show (((s.taking .a o).ports.markAll [] (removedByReset s)).get j).zones[z] = _
        rw [Ports.get_markAll, ← State.taking_zones .a j o s]
        exact addMembers_getElem ..
      rw [replied_zoneMarks_of_event, e, Bool.or_assoc]
    dsimp only
    rw [hl, ← hc, ← mem_removedByReset, ← Bool.or_eq_true]
    refine ⟨fun k j => ?_, fun k j => ?_⟩ <;> rw [marks]
    · rw [k, Bool.or_true]
    · rw [Bool.not_eq_true] at k; rw [k, Bool.or_false]

/-! ## A zone's filter timer (R3) -/

/-- The two levels of a line differ in activity, whichever the contact (Table 1-2). -/
theorem activityOf_ne {c : Contact} {a b : Level} (h : a ≠ b) : activityOf c a ≠ activityOf c b := by
  cases c <;> cases a <;> cases b <;> simp_all [activityOf]

/-- Settles O4: the event is the end of an event at the zones with the line's new level and the list's arrival or
clear. -/
theorem zoneFilterRunsOut : Obligations.ZoneFilterRunsOut := by
  intro s z hh hr hne
  let l : ZoneLine := { s.zone z with filter := { filtered := (s.zone z).raw, timer := .idle } }
  let u : State := activityEvent (s.active z) z (s.setZone z l)
  have e : exec (.zoneFilterTimerRunsOut z) s = .next (zonesFollow s u) := by
    show Host.Outcome.next (s.unlessHeld (zoneTimerOut z)) = _
    rw [State.unlessHeld, if_neg (by simp [hh]), zoneTimerOut, if_pos hr]
    rfl
  have line : (s.setZone z l).zone z = l := State.zone_setZone_self ..
  have act : (s.setZone z l).active z = activityOf (s.store.zone z).contact (s.zone z).raw := by
    rw [State.active, line]; rfl
  have changed : (s.setZone z l).active z ≠ s.active z := by rw [act]; exact activityOf_ne hne
  have hu (y : Zone) : u.zone y = (s.setZone z l).zone y := activityEvent_zone ..
  have list : u.alarms =
      (if (s.zone z).isolated then s.alarms
      else if activityOf (s.store.zone z).contact (s.zone z).raw then lineArrival (s.store.zone z).mode z s.alarms
      else lineClear z s.alarms) := by
    have k := activityEvent_alarms (s.active z) z (s.setZone z l)
    rw [line, act] at k
    refine k.trans ?_
    rw [act] at changed
    simp only [Ne.symm changed, or_false]
    rfl
  refine ⟨zonesFollow s u, e, ?_, fun y hy => ?_, ?_, fun hi => ?_, ?_, ?_, ?_, ?_, ?_, ?_, ?_, ?_, ?_⟩
  · rw [zonesFollow_zone, hu, line]
  · rw [zonesFollow_zone, hu, State.zone_setZone_ne s l hy]
  · rw [zonesFollow_alarms, list]
  · have same : s.alarms = u.alarms := by rw [list, if_pos hi]
    rw [zonesFollow_of_list_eq same]
    exact activityEvent_plant ..
  · refine zonesFollow_zoneMarked s u z ((zoneChanged_iff s u z).mpr (.inl ?_))
    rw [activityEvent_active]
    exact changed
  · refine State.zoneMarksExact_of fun j y => ?_
    have hp : u.port j = s.port j := by rw [State.port, activityEvent_ports]; rfl
    rw [zonesFollow_port_zones, zoneChanged_zonesFollow, hp]
  · have k := zonesFollow_demandsMarked s u
    rwa [State.DemandsMarked, activityEvent_plant] at k
  · have k := zonesFollow_portsMarked s u
    intro j
    have hp : u.port j = s.port j := by rw [State.port, activityEvent_ports]; rfl
    rw [← hp]
    exact k j
  · have k := zonesFollow_frame entriesKept_frame s u
    rwa [activityEvent_plant] at k
  · rw [zonesFollow_held, activityEvent_held]; rfl
  · rw [zonesFollow_store, activityEvent_store]; rfl
  · rw [zonesFollow_write, activityEvent_write]; rfl
  · rw [zonesFollow_pending, activityEvent_pending]; rfl

end Sys2Proof.Machine
end

section
/-! SUPPORT. What an event leaves standing besides: the limit in force when none is pending, the spacing timer and the
fans in RUNDOWN while no fan waits in the queue, and, with no test running and outside RESTORE, the mode, the test
record, the test demands and the joining reports. -/

namespace Sys2Proof.Machine

/-! ## The scheduler with no limit pending -/

/-- No limit is pending, the limit in force and the spacing timer are as they were, and no unit is taken. -/
structure Scheduler.Freed (a b : Scheduler) : Prop where
  pending : b.pendingLimit = none
  limit : b.limit = a.limit
  spacing : b.spacing = a.spacing
  inUse : b.inUse ≤ a.inUse

theorem Scheduler.Freed.refl {a : Scheduler} (h : a.pendingLimit = none) : a.Freed a := ⟨h, rfl, rfl, le_rfl⟩

theorem Scheduler.Freed.trans {a b c : Scheduler} (h : a.Freed b) (k : b.Freed c) : a.Freed c :=
  ⟨k.pending, k.limit.trans h.limit, k.spacing.trans h.spacing, k.inUse.trans h.inUse⟩

/-- With no limit pending, units returned change the allowance in use alone. -/
theorem unitsReturned_freed (n : Nat) {ev : Ev} (h : ev.plant.sched.pendingLimit = none) :
    ev.plant.sched.Freed (ev.unitsReturned n).plant.sched := by
  have k : (ev.withSched fun sc => { sc with inUse := sc.inUse - n }).testPendingLimit =
      ev.withSched fun sc => { sc with inUse := sc.inUse - n } := by
    unfold Ev.testPendingLimit
    rw [show (ev.withSched fun sc => { sc with inUse := sc.inUse - n }).plant.sched.pendingLimit = none from h]
  unfold Ev.unitsReturned
  rw [k]
  exact ⟨h, rfl, rfl, Nat.sub_le _ _⟩

theorem schedulerFollows_freed (env : Env) (p : Point) (o f : Fan) {ev : Ev}
    (h : ev.plant.sched.pendingLimit = none) :
    ev.plant.sched.Freed (schedulerFollows env p o f ev).plant.sched := by
  obtain ⟨b, e⟩ := schedulerFollows_eq env p o f ev
  have k : ev.plant.sched.Freed (queueFollows env p o f ev).plant.sched := by
    rw [queueFollows_sched]; exact ⟨h, rfl, rfl, le_rfl⟩
  rw [e, Ev.evaluateIf_plant]
  split
  · exact k.trans (unitsReturned_freed _ k.pending)
  · exact k

theorem putFan_freed (env : Env) {p : Point} (f : Fan) {ev : Ev} {o : Fan} (h : ev.plant.fan? p = some o)
    (hp : ev.plant.sched.pendingLimit = none) : ev.plant.sched.Freed (putFan env p f ev).plant.sched := by
  obtain ⟨ev', hs, e⟩ := putFan_sched env f h
  rw [e, ← hs]
  exact schedulerFollows_freed env p o _ (by rw [hs, hp])

theorem enterRunDown_freed (env : Env) {p : Point} {ev : Ev} {o : Fan} (h : ev.plant.fan? p = some o)
    (hp : ev.plant.sched.pendingLimit = none) : ev.plant.sched.Freed (enterRunDown env p ev).plant.sched := by
  rw [enterRunDown_eq env h]
  have k := putFan_freed env (o.toRunDown (env.store.point p)) h hp
  split
  · exact k.trans (putFan_freed env _ (putFan_fan?_self env _ h) k.pending)
  · exact k

/-- With no limit pending, no update changes the limit in force. -/
theorem Upd.limitKept {env : Env} {Q : Prop} {a b : Ev} (u : Upd env Q a b)
    (hp : a.plant.sched.pendingLimit = none) :
    b.plant.sched.pendingLimit = none ∧ b.plant.sched.limit = a.plant.sched.limit := by
  cases u with
  | res u => rw [u.unitsKept.2.1]; exact ⟨hp, rfl⟩
  | seq u =>
    cases u with
    | damper p d => rw [putDamper_sched]; exact ⟨hp, rfl⟩
    | fan p h hf => exact ⟨(putFan_freed env _ h hp).pending, (putFan_freed env _ h hp).limit⟩
    | runDown p h he => exact ⟨(enterRunDown_freed env h hp).pending, (enterRunDown_freed env h hp).limit⟩
    | wait p r h hq => exact ⟨hp, rfl⟩
    | start p h hq => exact ⟨(putFan_freed env _ h hp).pending, (putFan_freed env _ h hp).limit⟩

theorem Moves.limitKept {env : Env} {Q : Prop} {a b : Ev} (m : Moves env Q a b)
    (hp : a.plant.sched.pendingLimit = none) :
    b.plant.sched.pendingLimit = none ∧ b.plant.sched.limit = a.plant.sched.limit :=
  m.keeps (P := fun x => x.plant.sched.pendingLimit = none ∧ x.plant.sched.limit = a.plant.sched.limit)
    (fun _ _ u h => ⟨(u.limitKept h.1).1, (u.limitKept h.1).2.trans h.2⟩) ⟨hp, rfl⟩

/-- While no fan is QUEUED, no update takes units or loads the spacing timer. -/
theorem Upd.freed {env : Env} {a b : Ev} (u : Upd env True a b) (hp : a.plant.sched.pendingLimit = none)
    (hq : ∀ p f, a.plant.fan? p = some f → f.state ≠ .queued) : a.plant.sched.Freed b.plant.sched := by
  cases u with
  | res u => rw [u.unitsKept.2.1]; exact .refl hp
  | seq u =>
    cases u with
    | damper p d => rw [putDamper_sched]; exact .refl hp
    | fan p h hf => exact putFan_freed env _ h hp
    | runDown p h he => exact enterRunDown_freed env h hp
    | wait p r h hw => exact .refl hp
    | start p h hw => exact absurd (hw trivial) (hq _ _ h)

/-! ## A fan in RUNDOWN stays there -/

/-- An update of the sequencers leaves every fan record and the queue, or writes one fan's record, a fan in RUNDOWN
staying there, and the queue follows. -/
theorem SeqUpd.fanChanges {env : Env} {a b : Ev} (u : SeqUpd env True a b) :
    ((∀ q, b.plant.fan? q = a.plant.fan? q) ∧ b.plant.sched.queue = a.plant.sched.queue) ∨
      ∃ (p : Point) (o f : Fan), a.plant.fan? p = some o ∧ (o.state = .runDown → f.state = .runDown) ∧
        (∀ q, b.plant.fan? q = if q = p then some f else a.plant.fan? q) ∧
        b.plant.sched.queue = queueAfter env.store p o.state f.state a.plant.sched.queue := by
  have written {p : Point} {o : Fan} (f : Fan) (h : a.plant.fan? p = some o) (q : Point) :
      (putFan env p f a).plant.fan? q = if q = p then some (f.norm (env.store.point p)) else a.plant.fan? q := by
    rw [putFan_fan?]; simp [h]
  cases u with
  | damper p d => exact .inl ⟨fun q => putDamper_fan? .., by rw [putDamper_sched]⟩
  | @fan p o f h hf =>
    refine .inr ⟨p, o, f.norm (env.store.point p), h, fun hs => ?_, written f h, putFan_queue env f h⟩
    rw [Fan.norm_state]
    cases hf with
    | held w => exact hs
    | queues w ho => exact absurd (hs.symm.trans ho) (by decide)
    | leaves w ho => exact absurd (hs.symm.trans ho) (by decide)
    | speed w n ho => exact hs
  | @runDown p o h he =>
    refine .inr ⟨p, o, o.ranDown (env.store.point p), h, fun hs => ?_, enterRunDown_fan? env h,
      enterRunDown_queue env h (FanState.ne_queued_of_energised he)⟩
    rw [hs] at he; cases he
  | @wait p f r h hq =>
    refine .inr ⟨p, f, { f with wait := some r }, h, id, fun q => ?_, by simp [queueAfter, setWait]⟩
    rw [setWait, Ev.setChan_plant, Plant.fan?_setChan]; rfl
  | @start p f h hq =>
    refine .inr ⟨p, f, (f.started (env.store.point p)).norm (env.store.point p), h, fun hs => ?_, written _ h,
      putFan_queue env _ h⟩
    exact absurd (hs.symm.trans (hq trivial)) (by decide)

/-! ## No test running, outside RESTORE -/

/-- The mode is `m`, the test record `t` and the joining reports `j`; no joining is noted and no test demand stands. -/
structure Ev.Calm (m : Mode) (t : TestRecord) (j : List JoinReport) (ev : Ev) : Prop where
  mode : ev.plant.mode = m
  test : ev.plant.test = t
  reports : ev.plant.joinReports = j
  joined : ev.joined = []
  demands : ∀ p, (ev.plant.chan p).testDemand = none

section Calm
variable {m : Mode} {t : TestRecord} {j : List JoinReport}

/-- A channel replaced by one with the same test demand. -/
theorem Ev.Calm.setChan {ev : Ev} (h : ev.Calm m t j) {p : Point} {c : Channel}
    (hc : c.testDemand = (ev.plant.chan p).testDemand) : (ev.setChan p c).Calm m t j where
  mode := h.mode
  test := h.test
  reports := h.reports
  joined := h.joined
  demands q := by
    rw [Ev.setChan_plant, Plant.chan_setChan]
    split
    · rename_i e; subst e; exact hc.trans (h.demands q)
    · exact h.demands q

/-- Every update keeps it, if the test is not running and the mode is not RESTORE. -/
theorem Upd.calm (ht : t.state ≠ .running) (hm : m ≠ .restore) {env : Env} {Q : Prop} {a b : Ev} (u : Upd env Q a b)
    (h : a.Calm m t j) : b.Calm m t j := by
  have hr : a.plant.test.state ≠ .running := by rw [h.test]; exact ht
  cases u with
  | seq u =>
    obtain ⟨k1, k2, -, k4, -, k6⟩ := u.sequencersOnly
    refine ⟨k1.trans h.mode, k2.trans h.test, k4.trans h.reports, (u.onward.2.2 hr).trans h.joined, fun p => ?_⟩
    rw [k6 p]; exact h.demands p
  | res u =>
    cases u with
    | book hp _ hj =>
      refine ⟨?_, ?_, ?_, hj.trans h.joined, fun p => ?_⟩ <;> rw [hp]
      exacts [h.mode, h.test, h.reports, h.demands p]
    | lastFire p _ _ => exact h.setChan rfl
    | noDemand p _ => exact h.setChan rfl
    | demand p _ =>
      have k := h.setChan (p := p)
        (c := { a.plant.chan p with resolved := some (resolution env a.plant.mode p (a.plant.chan p)) }) rfl
      exact ⟨k.mode, k.test, k.reports, k.joined, k.demands⟩
    | joins =>
      refine ⟨h.mode, h.test, ?_, h.joined, h.demands⟩
      show a.plant.joinReports ++ a.joined.reverse.filterMap _ = j
      rw [h.joined, h.reports]; exact List.append_nil j
    | testDemand p x x' => exact absurd x' hr
    | test g x _ => exact absurd x hr
    | testDone x => exact absurd x hr
    | restored x => exact absurd (h.mode.symm.trans x) hm

theorem Moves.calm (ht : t.state ≠ .running) (hm : m ≠ .restore) {env : Env} {Q : Prop} {a b : Ev}
    (v : Moves env Q a b) (h : a.Calm m t j) : b.Calm m t j :=
  v.keeps (P := fun x => x.Calm m t j) (fun _ _ u => u.calm ht hm) h

end Calm

end Sys2Proof.Machine
end

section
/-! SUPPORT and the statement about device reset. -/

namespace Sys2Proof.Machine

/-! ## The fans and the scheduler after reset -/

theorem mem_of_mem_queueAfter {st : Store} {p q : Point} {o f : FanState} {l : List Point}
    (h : q ∈ queueAfter st p o f l) : q ∈ l ∨ (q = p ∧ f = .queued) := by
  unfold queueAfter at h
  split at h
  · rename_i hs
    exact (mem_queueInsert.mp h).elim (fun e => .inr ⟨e, hs.2⟩) .inl
  · split at h
    · exact .inl (List.mem_filter.mp h).1
    · exact .inl h

/-- A plant as device reset leaves it, under the stored limit `n`: every fan with a time to run down is in RUNDOWN, only
the others are queued, and if there are no others no unit is taken and the spacing timer is idle (R49, R101, R119). -/
structure Plant.RunsDown (st : Store) (n : Nat) (pl : Plant) : Prop where
  kinds : ∀ p, (pl.chan p).unit.kind = st.kind p
  limit : pl.sched.limit = n
  pending : pl.sched.pendingLimit = none
  fans : ∀ p f, pl.fan? p = some f → 0 < (st.point p).tRD → f.state = .runDown
  queue : ∀ p ∈ pl.sched.queue, st.kind p = .fan ∧ (st.point p).tRD = 0
  rests : (∀ p, st.kind p = .fan → 0 < (st.point p).tRD) → pl.sched.inUse = 0 ∧ pl.sched.spacing = .idle

section RunsDown
variable {st : Store} {n : Nat} {pl : Plant}

theorem Plant.RunsDown.kind_of_fan? (h : pl.RunsDown st n) {p : Point} {f : Fan} (hf : pl.fan? p = some f) :
    st.kind p = .fan := by
  rw [← h.kinds p, Plant.fan?_eq_some.mp hf]; rfl

/-- With a time to run down at every fan the queue is empty. -/
theorem Plant.RunsDown.queue_eq_nil (h : pl.RunsDown st n) (ht : ∀ p, st.kind p = .fan → 0 < (st.point p).tRD) :
    pl.sched.queue = [] :=
  List.eq_nil_iff_forall_not_mem.mpr fun p hp => by
    have := ht p (h.queue p hp).1
    have := (h.queue p hp).2
    omega

/-- The blocks in their after-reset state. -/
theorem Plant.atReset_runsDown (st : Store) (b : Bool) (pl : Plant) :
    (pl.atReset st b).RunsDown st st.device.nALW where
  kinds := (Plant.atReset_fit st b pl).kinds
  limit := rfl
  pending := rfl
  fans p f h ht := by
    rw [Plant.fan?_eq_some, Plant.atReset_chan] at h
    obtain ⟨rfl, -⟩ := Equipment.afterReset_fan h
    simp [Fan.afterReset, Fan.norm_state, Nat.pos_iff_ne_zero.mp ht]
  queue p hp := absurd hp List.not_mem_nil
  rests _ := ⟨rfl, rfl⟩

end RunsDown

/-- No update of the hand-over at reset changes it. -/
theorem Upd.keeps_runsDown {env : Env} {n : Nat} {a b : Ev} (u : Upd env True a b)
    (h : a.plant.RunsDown env.store n) : b.plant.RunsDown env.store n := by
  have hk : ∀ p, (b.plant.chan p).unit.kind = env.store.kind p := by
    intro p
    rw [← h.kinds p]
    cases u with
    | seq u => exact u.frame kinds_frame.toSeqFrame p
    | res u => rw [(u.unitsKept.1 p).1]
  have fans_and_queue : (∀ p f, b.plant.fan? p = some f → 0 < (env.store.point p).tRD → f.state = .runDown) ∧
      ∀ p ∈ b.plant.sched.queue, env.store.kind p = .fan ∧ (env.store.point p).tRD = 0 := by
    cases u with
    | res u =>
      refine ⟨fun p f hf => h.fans p f ((u.unitsKept.fan? p).symm.trans hf), fun p hp => h.queue p ?_⟩
      rwa [u.unitsKept.2.1] at hp
    | seq u =>
      rcases u.fanChanges with ⟨hf, hq⟩ | ⟨p, o, f, ho, hs, hf, hq⟩
      · exact ⟨fun p f e => h.fans p f ((hf p).symm.trans e), hq ▸ h.queue⟩
      · refine ⟨fun q g e ht => ?_, fun q hm => ?_⟩
        · rw [hf] at e
          split at e
          · rename_i eq; subst eq; cases e; exact hs (h.fans q o ho ht)
          · exact h.fans q g e ht
        · rw [hq] at hm
          rcases mem_of_mem_queueAfter hm with hm | ⟨rfl, e⟩
          · exact h.queue q hm
          · refine ⟨h.kind_of_fan? ho, Nat.eq_zero_of_not_pos fun ht => ?_⟩
            exact absurd ((hs (h.fans q o ho ht)).symm.trans e) (by decide)
  obtain ⟨hp, hl⟩ := u.limitKept h.pending
  refine ⟨hk, hl.trans h.limit, hp, fans_and_queue.1, fans_and_queue.2, fun ht => ?_⟩
  have k := u.freed h.pending fun p f hf e => by
    have hs := h.fans p f hf (ht p (h.kind_of_fan? hf))
    exact absurd (hs.symm.trans e) (by decide)
  obtain ⟨hi, hsp⟩ := h.rests ht
  exact ⟨Nat.eq_zero_of_le_zero (hi ▸ k.inUse), k.spacing.trans hsp⟩

/-- The hand-over at the end of a device reset, to the end of its event. -/
theorem State.handOverAtReset_moves (s : State) :
    Moves s.blocksReset.env True (.start s.blocksReset.plant)
      (finishEvent s.blocksReset.env (resolveAll s.blocksReset.env true (.start s.blocksReset.plant))) := by
  have m := resolveAll_moves s.blocksReset.env True true (.start s.blocksReset.plant)
  refine m.trans (finishEvent_moves_of_queueFit True (m.keeps_queueFit ?_))
  show s.blocksReset.plant.QueueFit s.blocksReset.store
  rw [State.blocksReset_plant, State.blocksReset_store]
  exact (Plant.atReset_fit ..).toQueueFit

/-- What the hand-over and its event keep, the end of a device reset gives. -/
theorem deviceResetEnds_keeps {P : Ev → Prop} (s : State)
    (h : ∀ a b, Upd s.blocksReset.env True a b → P a → P b) (h0 : P (.start s.blocksReset.plant)) :
    ∃ ev, (deviceResetEnds s).plant = ev.plant ∧ P ev :=
  ⟨_, deviceResetEnds_plant s, s.handOverAtReset_moves.keeps h h0⟩

theorem deviceResetEnds_runsDown (s : State) :
    (deviceResetEnds s).plant.RunsDown (deviceResetEnds s).store (deviceResetEnds s).store.device.nALW := by
  rw [deviceResetEnds_store]
  obtain ⟨ev, e, h⟩ := deviceResetEnds_keeps s
    (P := fun ev => ev.plant.RunsDown s.blocksReset.store s.blocksReset.store.device.nALW)
    (fun _ _ u h => u.keeps_runsDown h)
    (by
      show s.blocksReset.plant.RunsDown _ _
      rw [State.blocksReset_plant, State.blocksReset_store]
      exact Plant.atReset_runsDown ..)
  rwa [e]

/-- The mode of the blocks in their after-reset state is that of the rebuilt list (R49). -/
theorem State.blocksReset_mode (s : State) :
    s.blocksReset.plant.mode = if s.blocksReset.alarms = [] then .normal else .fire := by
  have e : s.blocksReset.alarms = rebuiltList s.linesReset := by rw [State.blocksReset]
  rw [State.blocksReset_plant, e]
  cases rebuiltList s.linesReset <;> simp [Plant.atReset]

/-- The mode, the test record, the test demands and the joining reports after reset. -/
theorem deviceResetEnds_calm (s : State) :
    ∃ ev : Ev, (deviceResetEnds s).plant = ev.plant ∧
      ev.Calm (if (deviceResetEnds s).alarms = [] then .normal else .fire) .afterReset [] := by
  refine deviceResetEnds_keeps s (fun _ _ u h => ?_) ?_
  · refine u.calm (by decide) ?_ h
    split <;> decide
  · refine ⟨?_, ?_, ?_, rfl, fun p => ?_⟩
    · rw [deviceResetEnds_alarms]; exact s.blocksReset_mode
    all_goals
      simp only [Ev.start, State.blocksReset_plant, Plant.atReset_chan]
      rfl

theorem endWriteByReset_chan (s : State) (p : Point) : (endWriteByReset s).plant.chan p = s.plant.chan p := by
  unfold endWriteByReset; split <;> rfl

theorem endWriteByReset_supply (s : State) : (endWriteByReset s).plant.supply = s.plant.supply := by
  unfold endWriteByReset; split <;> rfl

theorem endWriteByReset_pending (s : State) : (endWriteByReset s).pending = s.pending := by
  unfold endWriteByReset; split <;> rfl

theorem endWriteByReset_write (s : State) : (endWriteByReset s).write = none := by
  unfold endWriteByReset
  split
  · assumption
  · rfl

theorem State.blocksReset_chan (s : State) (p : Point) :
    s.blocksReset.plant.chan p = (s.plant.chan p).atReset (s.blocksReset.store.point p) := by
  rw [State.blocksReset_plant, Plant.atReset_chan, State.blocksReset_store]
  exact congrArg _ (endWriteByReset_chan s p)

theorem State.blocksReset_supply (s : State) : s.blocksReset.plant.supply = s.plant.supply.atReset := by
  rw [State.blocksReset_plant]
  exact congrArg Supply.atReset (endWriteByReset_supply s)

/-- What every event of the plant keeps of the blocks in their after-reset state. -/
theorem deviceResetEnds_frame {R : Plant → Plant → Prop} (F : PlantFrame R) (s : State) :
    R s.blocksReset.plant (deviceResetEnds s).plant := by
  rw [deviceResetEnds_plant]
  exact runEvent_frame F _ s.blocksReset (resolveAll_frame F s.blocksReset.env true (.start s.blocksReset.plant))

theorem deviceResetEnds_supply (s : State) : (deviceResetEnds s).plant.supply = s.plant.supply.atReset :=
  (deviceResetEnds_frame supply_frame s).trans s.blocksReset_supply

theorem deviceResetEnds_active (s : State) : (deviceResetEnds s).active = s.blocksReset.active := by
  funext z; simp only [State.active, deviceResetEnds_zone, deviceResetEnds_store]

theorem deviceResetEnds_held (s : State) : (deviceResetEnds s).held = false := by
  rw [deviceResetEnds_eq]; rfl

theorem deviceResetEnds_pending (s : State) : (deviceResetEnds s).pending = s.pending := by
  rw [deviceResetEnds_eq]; exact endWriteByReset_pending s

theorem deviceResetEnds_write (s : State) : (deviceResetEnds s).write = none := by
  rw [deviceResetEnds_eq]; exact endWriteByReset_write s

/-- Every port's record after reset, its change set holding the points in use. -/
theorem deviceResetEnds_port (s : State) (i : PortId) :
    (deviceResetEnds s).port i = .afterReset (usedPoints (deviceResetEnds s).store) := by
  rw [deviceResetEnds_store, deviceResetEnds_eq]
  cases i <;> rfl

theorem usedPoints_getElem (st : Store) (p : Point) : (usedPoints st)[p] = (st.kind p != .unused) := by
  rw [usedPoints, addMembers_getElem, Bool.eq_iff_iff]
  simp [allPoints]

/-! ## The store as a reset leaves it (R168) -/

/-- A reset leaves the store as it was, or with the write in progress in effect. -/
theorem endWriteByReset_store (s : State) :
    (s.write = none → (endWriteByReset s).store = s.store) ∧
      ∀ w, s.write = some w →
        (endWriteByReset s).store = s.store ∨ (endWriteByReset s).store = w.target.apply s.store := by
  refine ⟨fun h => by simp [endWriteByReset, h], fun w h => ?_⟩
  cases hb : Config.freeBit s.plant.draws <;> simp [endWriteByReset, h, hb]

theorem deviceResetBegins_write (s : State) : (deviceResetBegins s).write = none := endWriteByReset_write s

/-- Both commands of device reset leave the store that the end of a write leaves. -/
theorem reset_store {s t : State} (h : exec .deviceReset s = .next t ∨ exec .deviceResetHeld s = .next t) :
    t.write = none ∧ t.store = (endWriteByReset s).store := by
  rcases h with h | h
  · have e : deviceResetEnds s = t := Host.Outcome.next.inj h
    rw [← e, deviceResetEnds_store, State.blocksReset_store, State.linesReset_store]
    exact ⟨deviceResetEnds_write s, rfl⟩
  · have e : deviceResetBegins s = t := Host.Outcome.next.inj h
    rw [← e]
    exact ⟨deviceResetBegins_write s, deviceResetBegins_store s⟩

/-! ## While it is held -/

/-- Every CMD output is at rest when a reset begins. -/
theorem deviceResetBegins_chan (s : State) (p : Point) :
    (deviceResetBegins s).plant.chan p = { s.plant.chan p with cmd := false } := by
  refine (foldl_set_getElem (fun _ (c : Channel) => { c with cmd := false })
    (endWriteByReset s).plant.chans p).trans ?_
  rw [← endWriteByReset_chan]
  rfl

/-- A channel whose CMD is de-energised has its SPD at rest. -/
theorem Channel.spdHigh_of_cmd {c : PointCfg} {ch : Channel} (h : ch.cmd = false) : ch.spdHigh c = false := by
  unfold Channel.spdHigh
  split <;> simp [h]

theorem deviceResetBegins_mode (s : State) : (deviceResetBegins s).plant.mode ≠ .fire := by
  show (if (endWriteByReset s).plant.mode = .fire then Mode.normal else (endWriteByReset s).plant.mode) ≠ .fire
  split
  · decide
  · assumption

section Held
variable {s : State} (h : s.held = true)
include h

theorem unlessHeld_eq (g : State → State) : s.unlessHeld g = s := by simp [State.unlessHeld, h]

theorem exec_orderCommand_held (k : OrderKind) (i : PortId) (b1 b2 b3 : Byte) :
    exec (orderCommand k i b1 b2 b3) s = .next s := by
  cases k <;> exact congrArg _ (unlessHeld_eq h _)

/-- A zone's line moves alone. -/
theorem zoneRawChange_held (z : Zone) (level : Level) :
    zoneRawChange z level s = s.setZone z { s.zone z with raw := level } := by
  unfold zoneRawChange
  simp only [h, if_true]
  split
  · rename_i e
    subst e
    have k : s.zones.set z.val s.zones[z.val] = s.zones := Vector.set_getElem_self z.isLt
    show s = { s with zones := s.zones.set z.val s.zones[z.val] }
    rw [k]
  · rfl

theorem feedbackChange_held (p : Point) (i : LimitInput) (level : Level) :
    feedbackChange p i level s = moveFeedbackLine p i level s := by simp [feedbackChange, h]

theorem edgeChange_held (p : Point) : edgeChange p s = moveFeedbackLine p .fba .high s := by simp [edgeChange, h]

theorem supfailChange_held (level : Level) : supfailChange level s = moveSupfailLine level s := by
  simp [supfailChange, h]

/-- Nothing comes of an empty queue. -/
theorem step_held_empty : step { s with pending := [] } = .next { s with pending := [] } := by
  show Host.Outcome.next (State.idleStep { s with pending := [] }) = _
  simp [State.idleStep, h]

end Held

/-- Settles O57. Held, by what each command is while device reset is held. At its end, by the invariants of the
hand-over: its event runs with no test and outside RESTORE, so that mode, test and joining reports stand
(`deviceResetEnds_calm`), and no fan with a time to run down leaves RUNDOWN (`deviceResetEnds_runsDown`). -/
theorem resetHeldRests : Obligations.ResetHeldRests := by
  refine ⟨fun s => ?_, fun s h => ?_, fun s t h => ?_, fun s => ?_⟩
  · have cmd (p : Point) : ((deviceResetBegins s).plant.chan p).cmd = false := by rw [deviceResetBegins_chan]
    exact ⟨deviceResetBegins s, rfl, deviceResetBegins_held s, deviceResetBegins_write s,
      fun p => ⟨cmd p, Channel.spdHigh_of_cmd (cmd p)⟩,
      fun i => by rw [State.atn, deviceResetBegins_held]; rfl, endWriteByReset_zones s, rfl,
      deviceResetBegins_mode s, endWriteByReset_pending s⟩
  · have quiet (g : State → State) : Host.Outcome.next (s.unlessHeld g) = (.next s : Host.Outcome State Fault Refusal) :=
      congrArg _ (unlessHeld_eq h g)
    exact ⟨fun _ _ _ => quiet _, fun _ _ => quiet _, fun _ => quiet _, exec_orderCommand_held h,
      fun _ _ _ _ _ => quiet _,
      fun _ => ⟨quiet _, quiet _, quiet _, quiet _, quiet _, quiet _, fun _ => quiet _⟩, fun _ => quiet _,
      quiet _, quiet _, quiet _, quiet _, quiet _, step_held_empty h,
      fun z level => congrArg _ (zoneRawChange_held h z level),
      fun p level => ⟨congrArg _ (feedbackChange_held h p .fba level), congrArg _ (feedbackChange_held h p .fbb level),
        congrArg _ (feedbackChange_held h p .fbb level), congrArg _ (edgeChange_held h p)⟩,
      fun level => congrArg _ (supfailChange_held h level)⟩
  · obtain ⟨hw, hs⟩ := reset_store h
    rw [hs]
    exact ⟨hw, endWriteByReset_store s⟩
  · obtain ⟨ev, e, calm⟩ := deviceResetEnds_calm s
    have down := deviceResetEnds_runsDown s
    refine ⟨deviceResetEnds s, rfl, deviceResetEnds_held s, deviceResetEnds_pending s, fun z => ?_, ?_, ?_,
      fun p => ?_, down.limit, down.pending, fun ht => ?_, down.queue, deviceResetEnds_supply s, ?_, ?_, fun i => ?_⟩
    · rw [deviceResetEnds_zone, State.blocksReset_zone]; rfl
    · rw [deviceResetEnds_alarms, deviceResetEnds_active, deviceResetEnds_store]; exact s.blocksReset_alarms
    · rw [e]; exact calm.mode
    · obtain ⟨ha, hb, ho, hn, -⟩ := deviceResetEnds_frame entriesKept_frame s p
      rw [State.blocksReset_chan, ← deviceResetEnds_store] at ha hb ho hn
      exact ⟨ho, by rw [e]; exact calm.demands p, hn, ha, hb⟩
    · exact ⟨(down.rests ht).1, down.queue_eq_nil ht, (down.rests ht).2⟩
    · rw [e]; exact calm.reports
    · rw [e]; exact calm.test
    · rw [deviceResetEnds_port]
      refine ⟨rfl, rfl, rfl, rfl, rfl, rfl, rfl, rfl, rfl, rfl, fun z => ?_, fun p => usedPoints_getElem _ p⟩
      simp [PortRec.afterReset]

end Sys2Proof.Machine
end

section
/-! SUPPORT. What an event leaves of a point that it is not about: the channel of a bystander, a point that no operation
at another point reaches; and the end of an event with no test running and outside RESTORE, which is its evaluation. -/

namespace Sys2Proof.Machine

/-! ## Bystanders -/

/-- A channel that no operation at another point reaches: its damper, if it has one, is not in WAITFAN. -/
def Channel.Bystander (c : Channel) : Prop := ∀ d, c.damper? = some d → d.pos ≠ .waitFan

theorem Channel.Bystander.of_not_damper {c : Channel} (h : ∀ d, c.unit ≠ .damper d) : c.Bystander := by
  intro d hd
  cases hu : c.unit <;> simp [Channel.damper?, hu] at hd
  exact absurd hu (h _)

/-- A channel after a damper's record is written. -/
theorem putDamper_chan (env : Env) (p q : Point) (d : Damper) (ev : Ev) :
    (putDamper env p d ev).plant.chan q =
      if q = p ∧ (ev.plant.damper? p).isSome then
        { ev.plant.chan p with unit := .damper d, cmd := damperCmd (env.store.point p) d }
      else ev.plant.chan q := by
  rw [putDamper_plant]
  cases h : ev.plant.damper? p with
  | none => simp
  | some o => simp [Plant.chan_setChan]

theorem putDamper_chan_self {env : Env} {p : Point} (d : Damper) {ev : Ev} {o : Damper}
    (h : ev.plant.damper? p = some o) :
    (putDamper env p d ev).plant.chan p =
      { ev.plant.chan p with unit := .damper d, cmd := damperCmd (env.store.point p) d } := by
  rw [putDamper_chan, if_pos ⟨rfl, by simp [h]⟩]

section Chans
variable {env : Env} {q : Point} {ev : Ev}

theorem releaseOne_chan (h : (ev.plant.chan q).Bystander) (p : Point) :
    (releaseOne env ev p).plant.chan q = ev.plant.chan q := by
  unfold releaseOne
  split
  · rfl
  · rename_i d hd
    split
    · rename_i hw
      rw [putDamper_chan, if_neg]
      rintro ⟨rfl, -⟩
      exact h d hd hw.1
    · rfl

theorem releaseWaiting_chan (h : (ev.plant.chan q).Bystander) :
    (releaseWaiting env ev).plant.chan q = ev.plant.chan q := by
  have key (l : List Point) : (l.foldl (releaseOne env) ev).plant.chan q = ev.plant.chan q := by
    induction l generalizing ev with
    | nil => rfl
    | cons p ps ih =>
      have k := releaseOne_chan (env := env) h p
      rw [List.foldl_cons, ih (by rw [k]; exact h), k]
  exact key allPoints

theorem releaseIf_chan (h : (ev.plant.chan q).Bystander) (b : Bool) :
    (if b then releaseWaiting env ev else ev).plant.chan q = ev.plant.chan q := by
  cases b
  · rfl
  · exact releaseWaiting_chan h

/-- The written channel of a fan, and every bystander's, after a fan's record is written. -/
theorem putFan_chan {p : Point} (f : Fan) {o : Fan} (ho : ev.plant.fan? p = some o)
    (h : q = p ∨ (ev.plant.chan q).Bystander) :
    (putFan env p f ev).plant.chan q =
      if q = p then { ev.plant.chan p with unit := .fan (f.norm (env.store.point p)), cmd := f.state.energised }
      else ev.plant.chan q := by
  obtain ⟨b, r, c, -, e⟩ := putFan_eq env p f ho
  have written (x : Ev) : (schedulerFollows env p o (f.norm (env.store.point p))
      ((ev.setChan p { ev.plant.chan p with
        unit := .fan (f.norm (env.store.point p)), cmd := f.state.energised }).markIf b p)).plant.chan q =
      if q = p then { ev.plant.chan p with unit := .fan (f.norm (env.store.point p)), cmd := f.state.energised }
      else ev.plant.chan q := by
    rw [schedulerFollows_chan, Ev.markIf_plant, Ev.setChan_plant, Plant.chan_setChan]
  rw [e, releaseIf_chan] <;> rw [reportIf_plant]
  · exact written ev
  · refine (congrArg Channel.Bystander (written ev)).mpr ?_
    split
    · exact .of_not_damper fun d => by simp
    · rename_i hne; exact h.resolve_left hne

theorem putFan_chan_ne {p : Point} (f : Fan) (h : (ev.plant.chan q).Bystander) (hne : q ≠ p) :
    (putFan env p f ev).plant.chan q = ev.plant.chan q := by
  cases ho : ev.plant.fan? p with
  | none => simp [putFan, ho]
  | some o => rw [putFan_chan f ho (.inr h), if_neg hne]

/-- A start touches no other channel: no fan stops turning. -/
theorem startFan_chan_ne {p : Point} {f : Fan} (hne : q ≠ p) (hf : ev.plant.fan? p = some f) :
    (startFan env p f ev).plant.chan q = ev.plant.chan q := by
  obtain ⟨b, r, c, hc, e⟩ := putFan_eq env p (f.started (env.store.point p)) hf
  have stays : c = false := Bool.eq_false_iff.mpr fun x => absurd (hc x).2 (by simp [Fan.started, FanState.turning])
  subst stays
  show (putFan env p (f.started (env.store.point p)) ev).plant.chan q = _
  rw [e, if_neg (by simp), reportIf_plant, schedulerFollows_chan, Ev.markIf_plant, Ev.setChan_plant,
    Plant.chan_setChan_ne _ _ hne]

theorem enterRunDown_chan_ne {p : Point} (h : (ev.plant.chan q).Bystander) (hne : q ≠ p) :
    (enterRunDown env p ev).plant.chan q = ev.plant.chan q := by
  cases ho : ev.plant.fan? p with
  | none => simp [enterRunDown, ho]
  | some o =>
    have k := putFan_chan_ne (env := env) (p := p) (o.toRunDown (env.store.point p)) h hne
    rw [enterRunDown_eq env ho]
    split
    · rw [putFan_chan_ne _ (by rw [k]; exact h) hne, k]
    · exact k

/-- The interlock trips reach no bystander that is not a fan. -/
theorem tripPathFans_chan (h : (ev.plant.chan q).Bystander) (hf : ev.plant.fan? q = none) (p : Point) :
    (tripPathFans env p ev).plant.chan q = ev.plant.chan q := by
  have one {x : Ev} (hx : x.plant.chan q = ev.plant.chan q) (y : Point) :
      (interlockTrip env x y).plant.chan q = ev.plant.chan q := by
    unfold interlockTrip
    split
    · exact hx
    · rename_i f hy
      split
      · have hne : q ≠ y := by
          rintro rfl
          rw [Plant.fan?, hx] at hy
          exact absurd (hf.symm.trans hy) (by simp)
        rw [enterRunDown_chan_ne (by rw [hx]; exact h) hne, hx]
      · exact hx
  have key (l : List Point) : ∀ x : Ev, x.plant.chan q = ev.plant.chan q →
      (l.foldl (interlockTrip env) x).plant.chan q = ev.plant.chan q := by
    induction l with
    | nil => exact fun _ hx => hx
    | cons y ys ih => exact fun x hx => ih _ (one hx y)
  exact key _ ev rfl

/-- An UNUSED point's channel is not touched by the sequencers or the evaluation. -/
theorem SeqUpd.chan_unused {Q : Prop} {a b : Ev} (u : SeqUpd env Q a b) (h : (a.plant.chan q).unit = .unused) :
    b.plant.chan q = a.plant.chan q := by
  have by_ : (a.plant.chan q).Bystander := .of_not_damper fun d => by simp [h]
  have ne {p : Point} {f : Fan} (hf : a.plant.fan? p = some f) : q ≠ p := by
    rintro rfl
    rw [Plant.fan?_eq_some, h] at hf; cases hf
  cases u with
  | damper p d =>
    rw [putDamper_chan, if_neg]
    rintro ⟨rfl, x⟩
    obtain ⟨o, ho⟩ := Option.isSome_iff_exists.mp x
    rw [Plant.damper?_eq_some, h] at ho; cases ho
  | fan p hp hf => exact putFan_chan_ne _ by_ (ne hp)
  | runDown p hp he => exact enterRunDown_chan_ne by_ (ne hp)
  | wait p r hp hq => exact Plant.chan_setChan_ne _ _ (ne hp)
  | start p hp hq => exact putFan_chan_ne _ by_ (ne hp)

end Chans

/-! ## The evaluation -/

/-- What the evaluation's two updates keep at the points of the queue, the evaluation keeps. -/
theorem evaluationWalk_keeps {env : Env} {P : Plant → Prop} {l : List Point}
    (hw : ∀ p ∈ l, ∀ (x : Ev) (f : Fan) (r : WaitReason), x.plant.fan? p = some f → P x.plant →
      P (setWait p f r x).plant)
    (hs : ∀ p ∈ l, ∀ (x : Ev) (f : Fan), x.plant.fan? p = some f → P x.plant → P (startFan env p f x).plant)
    (b : Bool) {ev : Ev} (h : P ev.plant) : P (evaluationWalk env b l ev).plant := by
  induction l generalizing b ev with
  | nil => exact h
  | cons p ps ih =>
    have rest := @ih (fun q m => hw q (List.mem_cons_of_mem _ m)) fun q m => hs q (List.mem_cons_of_mem _ m)
    have wait := hw p List.mem_cons_self
    unfold evaluationWalk
    split
    · exact rest _ h
    · rename_i f hf
      split
      · exact rest _ (wait _ f _ hf h)
      · split
        · exact rest _ (wait _ f _ hf h)
        · split
          · exact rest _ (wait _ f _ hf h)
          · exact rest _ (hs p List.mem_cons_self _ f hf h)

/-! ## The end of an event with no test running, outside RESTORE -/

section Quiet
variable {env : Env} {ev : Ev}

/-- No report moves the test unit or completes a restore. -/
theorem takeReport_quiet (ht : ev.plant.test.state ≠ .running) (hm : ev.plant.mode ≠ .restore) (r : Report) :
    takeReport env ev r = ev := by
  have hu (p : Point) : ev.underTest p = false := by simp [Ev.underTest, ht]
  have hc : checkRestore env ev = ev := by simp [checkRestore, hm]
  cases r with
  | damper p pos fault => simp [takeReport, hu]
  | fan p state fault => simp [takeReport, hc, hu]
  | override p => simp [takeReport, hu]
  | restoreCheck => exact hc

theorem foldl_takeReport_quiet (l : List Report) (ht : ev.plant.test.state ≠ .running) (hm : ev.plant.mode ≠ .restore) :
    l.foldl (takeReport env) ev = ev := by
  induction l with
  | nil => rfl
  | cons r rs ih => rw [List.foldl_cons, takeReport_quiet ht hm, ih]

theorem settle_plant_quiet (n : Nat) (ht : ev.plant.test.state ≠ .running) (hm : ev.plant.mode ≠ .restore) :
    (settle env n ev).plant = ev.plant := by
  induction n generalizing ev with
  | zero => rfl
  | succ n ih =>
    unfold settle
    split
    · rfl
    · rw [foldl_takeReport_quiet (ev := { ev with reports := [] }) _ ht hm]
      exact ih (ev := { ev with reports := [] }) ht hm

/-- What the evaluation keeps, and a change of the joining reports, the end of the event keeps. -/
theorem finishEvent_keeps {P : Plant → Prop} (ht : ev.plant.test.state ≠ .running) (hm : ev.plant.mode ≠ .restore)
    (hw : ∀ p ∈ ev.plant.sched.queue, ∀ (x : Ev) (f : Fan) (r : WaitReason), x.plant.fan? p = some f → P x.plant →
      P (setWait p f r x).plant)
    (hs : ∀ p ∈ ev.plant.sched.queue, ∀ (x : Ev) (f : Fan), x.plant.fan? p = some f → P x.plant →
      P (startFan env p f x).plant)
    (hj : ∀ (pl : Plant) (j : List JoinReport), P pl → P { pl with joinReports := j })
    (h : P ev.plant) : P (finishEvent env ev).plant := by
  have e : (settleAll env ev).plant = ev.plant := settle_plant_quiet _ ht hm
  have evaluated : P (if (settleAll env ev).evalDue then evaluate env (settleAll env ev)
      else settleAll env ev).plant := by
    split
    · refine evaluationWalk_keeps ?_ ?_ _ (by rw [e]; exact h)
      · rw [e]; exact hw
      · rw [e]; exact hs
    · rw [e]; exact h
  exact hj _ _ evaluated

/-- A point that does not wait in the queue keeps its channel. -/
theorem finishEvent_chan (ht : ev.plant.test.state ≠ .running) (hm : ev.plant.mode ≠ .restore) {q : Point}
    (hq : q ∉ ev.plant.sched.queue) :
    (finishEvent env ev).plant.chan q = ev.plant.chan q := by
  have ne {p : Point} (hp : p ∈ ev.plant.sched.queue) : q ≠ p := fun e => hq (e ▸ hp)
  refine finishEvent_keeps (P := fun pl => pl.chan q = ev.plant.chan q) ht hm (fun p hp x f r _ hx => ?_)
    (fun p hp x f hf hx => ?_) (fun _ _ hx => hx) rfl
  · exact (Plant.chan_setChan_ne _ _ (ne hp)).trans hx
  · exact (startFan_chan_ne (ne hp) hf).trans hx

theorem setWait_turning {p : Point} {f : Fan} {r : WaitReason} {x : Ev} (h : x.plant.fan? p = some f) (q : Point) :
    (setWait p f r x).plant.turning q = x.plant.turning q := by
  by_cases e : q = p
  · subst e; simp [setWait, Plant.turning, Plant.fan?_setChan, Channel.fan?, h]
  · rw [Plant.turning, setWait_fan?_ne f r x e, Plant.turning]

theorem startFan_fan? {p : Point} {f : Fan} {x : Ev} (h : x.plant.fan? p = some f) (q : Point) :
    (startFan env p f x).plant.fan? q =
      if q = p then some ((f.started (env.store.point p)).norm (env.store.point p)) else x.plant.fan? q :=
  (putFan_fan? env p q (f.started (env.store.point p)) x).trans (by simp [h])

/-- A fan that turns goes on turning. -/
theorem finishEvent_turning (ht : ev.plant.test.state ≠ .running) (hm : ev.plant.mode ≠ .restore) {q : Point}
    (h : ev.plant.turning q = true) : (finishEvent env ev).plant.turning q = true := by
  refine finishEvent_keeps (P := fun pl => pl.turning q = true) ht hm (fun p _ x f r hf hx => ?_)
    (fun p _ x f hf hx => ?_) (fun _ _ hx => hx) h
  · rw [setWait_turning hf]; exact hx
  · by_cases e : q = p
    · subst e; rw [Plant.turning, startFan_fan? hf, if_pos rfl]; rfl
    · rw [Plant.turning, startFan_fan? hf, if_neg e]; exact hx

/-- A fan that waits in the queue goes on waiting, or starts, with the demand that it holds. -/
theorem finishEvent_queued (ht : ev.plant.test.state ≠ .running) (hm : ev.plant.mode ≠ .restore) {q : Point} {o : Fan}
    (h : ev.plant.fan? q = some o) (hs : o.state = .queued) (hf : o.fault = .none) :
    ∃ f, (finishEvent env ev).plant.fan? q = some f ∧ f.held = o.held ∧ f.fault = .none ∧
      (f.state = .queued ∨ f.state = .starting) := by
  refine finishEvent_keeps (P := fun pl => ∃ f, pl.fan? q = some f ∧ f.held = o.held ∧ f.fault = .none ∧
    (f.state = .queued ∨ f.state = .starting)) ht hm (fun p _ x g r hg hx => ?_) (fun p _ x g hg hx => ?_)
    (fun _ _ hx => hx) ⟨o, h, rfl, hf, .inl hs⟩ <;> obtain ⟨f, hx, hh, hk, hs⟩ := hx
  · by_cases e : q = p
    · subst e
      obtain rfl : f = g := Option.some.inj (hx.symm.trans hg)
      refine ⟨{ f with wait := some r }, ?_, hh, hk, hs⟩
      rw [setWait, Ev.setChan_plant, Plant.fan?_setChan, if_pos rfl]; rfl
    · exact ⟨f, (setWait_fan?_ne g r x e).trans hx, hh, hk, hs⟩
  · by_cases e : q = p
    · subst e
      obtain rfl : f = g := Option.some.inj (hx.symm.trans hg)
      exact ⟨_, (startFan_fan? hx q).trans (if_pos rfl), hh, rfl, .inr rfl⟩
    · exact ⟨f, (startFan_fan? hg q).trans ((if_neg e).trans hx), hh, hk, hs⟩

/-- The mode stands, and every channel but for its record and its CMD. -/
theorem finishEvent_demands (ht : ev.plant.test.state ≠ .running) (hm : ev.plant.mode ≠ .restore) :
    (finishEvent env ev).plant.mode = ev.plant.mode ∧
      ∀ q, (finishEvent env ev).plant.chan q =
        { ev.plant.chan q with
          unit := ((finishEvent env ev).plant.chan q).unit, cmd := ((finishEvent env ev).plant.chan q).cmd } := by
  refine finishEvent_keeps (P := fun pl => pl.mode = ev.plant.mode ∧
    ∀ q, pl.chan q = { ev.plant.chan q with unit := (pl.chan q).unit, cmd := (pl.chan q).cmd }) ht hm
    (fun p _ x f r hf hx => ?_) (fun p _ x f hf hx => ?_) (fun _ _ hx => hx) ⟨rfl, fun _ => rfl⟩
  · obtain ⟨k1, -, -, -, -, k6⟩ := setWait_frame sequencersOnly_frame f r hf
    exact ⟨k1.trans hx.1, fun q => by rw [k6 q, hx.2 q]⟩
  · obtain ⟨k1, -, -, -, -, k6⟩ := startFan_frame sequencersOnly_frame env p f x
    exact ⟨k1.trans hx.1, fun q => by rw [k6 q, hx.2 q]⟩

end Quiet

end Sys2Proof.Machine
end

section
/-! SUPPORT. The re-initialisation of a point after a completed point-field write (R39, R73, R102), in three parts: the
record replaced, the forced resolution with its hand-over, and the end of the event. -/

namespace Sys2Proof.Machine

/-! ## The record replaced -/

/-- The event of a re-initialisation before the point is resolved: the point has its new record, and the scheduler and
the damper side have followed. -/
def recordReplaced (units : Nat) (p : Point) (env : Env) (ev : Ev) : Ev :=
  let ch := ev.plant.chan p
  let ch' := ch.reinitialised (env.store.point p)
  let ev := damperSideFollows env p ch.unit ch'.unit (oldFanLeaves units p ch.unit ((ev.setChan p ch').mark p))
  if ch.unit.isFan || ch'.unit.isFan then releaseWaiting env ev else ev

/-- Then the point is resolved, and the check for restore completion may follow. -/
theorem reinitialise_eq (units : Nat) (p : Point) (env : Env) (ev : Ev) :
    ∃ b : Bool, reinitialise units p env ev =
      if b then (resolvePoint env true (recordReplaced units p env ev) p).report .restoreCheck
      else resolvePoint env true (recordReplaced units p env ev) p := ⟨_, rfl⟩

/-- A damper record after reset is UNPROVEN (R72). -/
theorem Equipment.afterReset_damper {c : PointCfg} {ch : Channel} {d : Damper}
    (h : Equipment.afterReset c ch = .damper d) : d.pos = .unproven := by
  unfold Equipment.afterReset at h
  split at h <;> cases h
  rfl

theorem Channel.reinitialised_bystander (c : PointCfg) (ch : Channel) : (ch.reinitialised c).Bystander := by
  intro d hd
  have hu : Equipment.afterReset c ch = .damper d := by
    unfold Channel.damper? at hd
    split at hd
    · rename_i h; cases hd; exact h
    · cases hd
  rw [Equipment.afterReset_damper hu]
  decide

theorem oldFanLeaves_frame {R : Plant → Plant → Prop} (F : SeqFrame R) (n : Nat) (p : Point) (old : Equipment) (ev : Ev) :
    R ev.plant (oldFanLeaves n p old ev).plant := by
  unfold oldFanLeaves
  split
  · split
    · exact withSched_frame F _ ev
    · split
      · exact unitsReturned_frame F n ev
      · exact F.refl _
  · exact F.refl _

theorem oldFanLeaves_onward (n : Nat) (p : Point) (old : Equipment) (ev : Ev) :
    ev.Onward (oldFanLeaves n p old ev) := by
  unfold oldFanLeaves
  split
  · split
    · exact Ev.onward_of_eq rfl rfl rfl
    · split
      · exact unitsReturned_onward n ev
      · exact .refl _
  · exact .refl _

theorem damperSideFollows_frame {R : Plant → Plant → Prop} (F : SeqFrame R) (env : Env) (p : Point)
    (old new : Equipment) (ev : Ev) : R ev.plant (damperSideFollows env p old new ev).plant := by
  have trips : R ev.plant ((tripPathFans env p ev).evaluateIf true).plant := tripPathFans_frame F env p ev
  unfold damperSideFollows
  split
  · split
    · exact trips
    · exact F.refl _
  · exact trips
  · exact F.refl _
  · exact F.refl _

/-- The damper side reaches a bystander only if it trips its fan, and it trips fans only for a new damper. -/
theorem damperSideFollows_chan (env : Env) (p : Point) (old : Equipment) {ev : Ev}
    (h : (ev.plant.chan p).Bystander) :
    (damperSideFollows env p old (ev.plant.chan p).unit ev).plant.chan p = ev.plant.chan p := by
  unfold damperSideFollows
  have trips {d : Damper} (hu : (ev.plant.chan p).unit = .damper d) :
      ((tripPathFans env p ev).evaluateIf true).plant.chan p = ev.plant.chan p :=
    tripPathFans_chan h (by simp [Plant.fan?, Channel.fan?, hu]) p
  split
  · rename_i hu
    split
    · exact trips hu
    · rfl
  · rename_i hu; exact trips hu
  · rfl
  · rfl

section Replaced
variable {env : Env} {ev : Ev} {p : Point} {n : Nat}

/-- The point stands with its new record. -/
theorem recordReplaced_chan :
    (recordReplaced n p env ev).plant.chan p = (ev.plant.chan p).reinitialised (env.store.point p) := by
  have h0 := oldFanLeaves_reinitialised_chan n p (env.store.point p) ev p
  rw [if_pos rfl] at h0
  have h1 := damperSideFollows_chan env p (ev.plant.chan p).unit
    (by rw [h0]; exact Channel.reinitialised_bystander _ _)
  rw [h0] at h1
  unfold recordReplaced
  dsimp only
  rw [releaseIf_chan, h1]
  rw [h1]; exact Channel.reinitialised_bystander _ _

/-- Besides the new record, only the sequencers and the scheduler have acted. -/
theorem recordReplaced_sequencersOnly :
    (ev.plant.setChan p ((ev.plant.chan p).reinitialised (env.store.point p))).SequencersOnly
      (recordReplaced n p env ev).plant := by
  have F := sequencersOnly_frame
  refine F.trans (oldFanLeaves_frame F n p (ev.plant.chan p).unit
    ((ev.setChan p ((ev.plant.chan p).reinitialised (env.store.point p))).mark p)) ?_
  refine F.trans (damperSideFollows_frame F env p (ev.plant.chan p).unit
    ((ev.plant.chan p).reinitialised (env.store.point p)).unit _) ?_
  unfold recordReplaced
  dsimp only
  split
  · exact releaseWaiting_frame F env _
  · exact F.refl _

theorem recordReplaced_mode : (recordReplaced n p env ev).plant.mode = ev.plant.mode := by
  obtain ⟨h, -⟩ := recordReplaced_sequencersOnly (env := env) (ev := ev) (p := p) (n := n); exact h

theorem recordReplaced_test : (recordReplaced n p env ev).plant.test = ev.plant.test := by
  obtain ⟨-, h, -⟩ := recordReplaced_sequencersOnly (env := env) (ev := ev) (p := p) (n := n); exact h

/-- No normal-demand entry has changed. -/
theorem recordReplaced_normal (q : Point) :
    ((recordReplaced n p env ev).plant.chan q).normal = (ev.plant.chan q).normal := by
  obtain ⟨-, -, -, -, -, h⟩ := recordReplaced_sequencersOnly (env := env) (ev := ev) (p := p) (n := n)
  rw [h q, Plant.chan_setChan]
  split
  · rename_i e; subst e; rfl
  · rfl

theorem recordReplaced_moves (Q : Prop) :
    Moves env Q
      (oldFanLeaves n p (ev.plant.chan p).unit
        ((ev.setChan p ((ev.plant.chan p).reinitialised (env.store.point p))).mark p))
      (recordReplaced n p env ev) := by
  refine (damperSideFollows_moves env Q p (ev.plant.chan p).unit
    ((ev.plant.chan p).reinitialised (env.store.point p)).unit _).trans ?_
  unfold recordReplaced
  dsimp only
  split
  · exact releaseWaiting_moves env Q _
  · exact .refl

/-- The queue is fit under the new store. -/
theorem recordReplaced_queueFit {st : Store} (hst : st.SameBut p env.store) (F : ev.plant.QueueFit st) :
    (recordReplaced n p env ev).plant.QueueFit env.store :=
  (recordReplaced_moves True).keeps_queueFit (oldFanLeaves_queueFit hst F n)

/-- The point is marked. -/
theorem mem_recordReplaced_marks : p ∈ (recordReplaced n p env ev).marks :=
  (recordReplaced_moves False).demandsTold.1 ((oldFanLeaves_onward ..).1 List.mem_cons_self)

end Replaced

/-! ## The forced resolution -/

/-- A channel whose fire demand is stored, in FIRE (R28). -/
def Channel.fireStored (env : Env) (m : Mode) (p : Point) (ch : Channel) : Channel :=
  if m = .fire then { ch with lastFire := some (fireDemand env p ch.normal).action } else ch

/-- A channel with the demand of R35. -/
def Channel.resolvedAt (env : Env) (m : Mode) (p : Point) (ch : Channel) : Channel :=
  { ch.fireStored env m p with resolved := some (resolution env m p (ch.fireStored env m p)) }

theorem Channel.fireStored_eq (env : Env) (m : Mode) (p : Point) (ch : Channel) :
    ch.fireStored env m p =
      { ch with
        lastFire := if m = .fire then some (fireDemand env p ch.normal).action else ch.lastFire } := by
  unfold Channel.fireStored; split <;> rfl

theorem Channel.resolvedAt_eq (env : Env) (m : Mode) (p : Point) (ch : Channel) :
    ch.resolvedAt env m p =
      { ch with
        lastFire := if m = .fire then some (fireDemand env p ch.normal).action else ch.lastFire
        resolved := (ch.resolvedAt env m p).resolved } := by
  rw [Channel.resolvedAt, Channel.fireStored_eq]

theorem storeLastFire_plant (env : Env) (p : Point) (ev : Ev) :
    (storeLastFire env p ev).plant = ev.plant.setChan p ((ev.plant.chan p).fireStored env ev.plant.mode p) := by
  unfold storeLastFire Channel.fireStored
  split
  · rfl
  · simp

/-- What a demand depends on. -/
theorem resolution_congr (env : Env) (m : Mode) (p : Point) {a b : Channel} (ho : b.override = a.override)
    (hn : b.normal = a.normal) (hl : b.lastFire = a.lastFire) (ht : b.testDemand = a.testDemand) :
    resolution env m p b = resolution env m p a := by
  unfold resolution modeDemand restoreDemand normalDemand
  rw [ho, hn, hl, ht]

/-- A forced resolution stores the demand of R35 and hands it. -/
theorem resolvePoint_forced {env : Env} {p : Point} (hk : env.store.kind p ≠ .unused) (ev : Ev) :
    ∃ e : Ev, e.plant = ev.plant.setChan p ((ev.plant.chan p).resolvedAt env ev.plant.mode p) ∧
      resolvePoint env true ev p =
        handDemand env p
          (resolution env ev.plant.mode p ((ev.plant.chan p).fireStored env ev.plant.mode p)) e := by
  have hm : (storeLastFire env p ev).plant.mode = ev.plant.mode := by rw [storeLastFire_plant]; rfl
  have hc : (storeLastFire env p ev).plant.chan p = (ev.plant.chan p).fireStored env ev.plant.mode p := by
    rw [storeLastFire_plant, Plant.chan_setChan_self]
  unfold resolvePoint handOver
  rw [if_neg hk]
  dsimp only
  rw [if_pos (.inl rfl), hm, hc]
  refine ⟨_, ?_, rfl⟩
  have written (x : Ev) (hx : x.plant = ev.plant.setChan p ((ev.plant.chan p).resolvedAt env ev.plant.mode p))
      (b : Prop) [Decidable b] (r : Report) :
      (if b then x.report r else x).plant =
        ev.plant.setChan p ((ev.plant.chan p).resolvedAt env ev.plant.mode p) := by
    split <;> exact hx
  refine written _ ?_ _ _
  rw [Ev.mark_plant, Ev.setChan_plant, storeLastFire_plant, Plant.setChan_setChan]
  rfl

/-- A demand handed to a damper that is not OPEN: no path fan trips. -/
theorem handDemand_damper {env : Env} {p : Point} {ev : Ev} {o : Damper} (h : (ev.plant.chan p).unit = .damper o)
    (ho : o.pos ≠ .opened) (d : Demand) :
    handDemand env p d ev =
      putDamper env p
        (o.takeDemand (env.store.point p) (anyPathFanTurning env.store ev.plant p) d.action.damperEnd d.source) ev := by
  have hd : ev.plant.damper? p = some o := Plant.damper?_eq_some.mpr h
  simp [handDemand, h, handDamper, hd, moveDamper, Plant.isOpen, ho]

/-- A fault kind stands in FAULT only. -/
theorem Fan.norm_fault_none {c : PointCfg} {f : Fan} (h : (f.norm c).state ≠ .fault) : (f.norm c).fault = .none :=
  if_neg h

/-- The record that a demand leaves of a fan that stands IDLE or in RUNDOWN (R76, R87). -/
def Fan.handedAtRest (c : PointCfg) (w : FanWant) (src : Source) (o : Fan) : Fan :=
  Fan.norm c
    { o with
      held := some { want := w, source := src }
      state := if o.state = .idle ∧ w ≠ .stop then .queued else o.state }

theorem handDemand_fanAtRest {env : Env} {p : Point} {ev : Ev} {o : Fan} (h : (ev.plant.chan p).unit = .fan o)
    (ho : o.state = .idle ∨ o.state = .runDown) (d : Demand) :
    (handDemand env p d ev).plant.chan p =
      { ev.plant.chan p with
        unit := .fan (o.handedAtRest (env.store.point p) d.action.fanWant d.source), cmd := false } := by
  have hf : ev.plant.fan? p = some o := Plant.fan?_eq_some.mpr h
  have e : handDemand env p d ev = handFan env p d.action.fanWant d.source ev := by simp [handDemand, h]
  rw [e]
  unfold handFan
  simp only [hf]
  rcases ho with hs | hs <;> cases hw : d.action.fanWant <;> simp only [hs] <;>
    rw [putFan_chan _ hf (.inl rfl), if_pos rfl] <;> simp [Fan.handedAtRest, hs, FanState.energised]

end Sys2Proof.Machine
end

section
/-! SUPPORT. What a re-initialisation leaves at the end of its event: at an UNUSED point, of the last fire demand, and of
the demand handed to the new record. -/

namespace Sys2Proof.Machine

section Reinitialised
variable {env : Env} {ev : Ev} {p : Point} {n : Nat}

theorem reinitialise_plant :
    (reinitialise n p env ev).plant = (resolvePoint env true (recordReplaced n p env ev) p).plant := by
  obtain ⟨b, e⟩ := reinitialise_eq n p env ev
  rw [e]
  split <;> rfl

/-- What every event of the plant keeps, the event keeps from the replaced record on. -/
theorem reinitialised_frame {R : Plant → Plant → Prop} (F : PlantFrame R) :
    R (recordReplaced n p env ev).plant (finishEvent env (reinitialise n p env ev)).plant := by
  refine F.trans ?_ (finishEvent_frame F env _)
  rw [reinitialise_plant]
  exact resolvePoint_frame F env true _ p

/-- The point has the record of its new kind. -/
theorem reinitialised_kind :
    ((finishEvent env (reinitialise n p env ev)).plant.chan p).unit.kind = env.store.kind p := by
  have k := (reinitialised_frame (env := env) (ev := ev) (p := p) (n := n) entriesKept_frame p).2.2.2.2
  rw [recordReplaced_chan] at k
  exact k.trans (Equipment.afterReset_kind ..)

/-- No normal-demand entry changes. -/
theorem reinitialised_normal (q : Point) :
    ((finishEvent env (reinitialise n p env ev)).plant.chan q).normal = (ev.plant.chan q).normal := by
  obtain ⟨-, -, -, h, -⟩ := reinitialised_frame (env := env) (ev := ev) (p := p) (n := n) entriesKept_frame q
  exact h.trans (recordReplaced_normal q)

/-- The point is marked. -/
theorem mem_reinitialised_marks : p ∈ (finishEvent env (reinitialise n p env ev)).marks := by
  have m : Moves env False (recordReplaced n p env ev) (finishEvent env (reinitialise n p env ev)) := by
    refine .trans ?_ (finishEvent_moves env False _ False.elim)
    obtain ⟨b, e⟩ := reinitialise_eq n p env ev
    rw [e]
    exact (resolvePoint_moves env False true _ p).trans (reportIf_moves env False _ _ _)
  exact m.demandsTold.1 mem_recordReplaced_marks

/-! ## An UNUSED point -/

/-- A channel at rest at a point that is not used. -/
structure Channel.Idle (c : Channel) : Prop where
  unit : c.unit = .unused
  resolved : c.resolved = none
  override : c.override = .auto
  cmd : c.cmd = false

/-- Nothing that an event does reaches an UNUSED point. -/
theorem Upd.keeps_idle (hk : env.store.kind p = .unused) {Q : Prop} {a b : Ev} (u : Upd env Q a b)
    (h : (a.plant.chan p).Idle) : (b.plant.chan p).Idle := by
  have other {q : Point} (hq : env.store.kind q ≠ .unused) (c : Channel) : ((a.plant.setChan q c).chan p).Idle := by
    rw [Plant.chan_setChan_ne _ _ (by rintro rfl; exact hq hk)]; exact h
  cases u with
  | seq u => rw [u.chan_unused h.unit]; exact h
  | res u =>
    cases u with
    | book hp _ _ => rw [hp]; exact h
    | lastFire q hq _ => exact other hq _
    | demand q hq => exact other hq _
    | noDemand q _ =>
      rw [Ev.setChan_plant, Plant.chan_setChan]
      split
      · rename_i e; subst e; exact ⟨h.unit, rfl, h.override, h.cmd⟩
      · exact h
    | testDemand q x _ =>
      rw [Ev.setChan_plant, Plant.chan_setChan]
      split
      · rename_i e; subst e; exact ⟨h.unit, h.resolved, h.override, h.cmd⟩
      · exact h
    | _ => exact h

/-- A point that has become UNUSED is at rest (R32, R39). -/
theorem reinitialised_idle (hk : env.store.kind p = .unused) :
    ((finishEvent env (reinitialise n p env ev)).plant.chan p).Idle := by
  refine (finishEvent_moves env False _ False.elim).keeps (P := fun x => (x.plant.chan p).Idle)
    (fun _ _ u h => u.keeps_idle hk h) ?_
  have hc : (env.store.point p).kind = .unused := hk
  rw [reinitialise_plant, resolvePoint, if_pos hk, Ev.setChan_plant, Plant.chan_setChan_self, recordReplaced_chan]
  exact ⟨by simp [Channel.reinitialised, Equipment.afterReset, hc], rfl, by simp [Channel.reinitialised, hc], rfl⟩

/-! ## The forced resolution of the new record -/

/-- The channel at its forced resolution, before the hand-over. -/
def reinitialisedAt (env : Env) (p : Point) (ev : Ev) : Channel :=
  ((ev.plant.chan p).reinitialised (env.store.point p)).resolvedAt env ev.plant.mode p

theorem reinitialisedAt_lastFire :
    (reinitialisedAt env p ev).lastFire =
      if ev.plant.mode = .fire then some (fireDemand env p (ev.plant.chan p).normal).action else none := by
  rw [reinitialisedAt, Channel.resolvedAt_eq]; rfl

theorem reinitialisedAt_unit :
    (reinitialisedAt env p ev).unit = .afterReset (env.store.point p) (ev.plant.chan p) := by
  rw [reinitialisedAt, Channel.resolvedAt_eq]; rfl

theorem reinitialisedAt_normal : (reinitialisedAt env p ev).normal = (ev.plant.chan p).normal := by
  rw [reinitialisedAt, Channel.resolvedAt_eq]; rfl

/-- It holds the demand of R35. -/
theorem reinitialisedAt_resolved :
    (reinitialisedAt env p ev).resolved =
      some (resolution env ev.plant.mode p (reinitialisedAt env p ev)) := by
  rw [reinitialisedAt]
  exact congrArg some (resolution_congr env _ p rfl rfl rfl rfl)

/-- The re-initialisation hands the demand of R35, from a plant that holds it. -/
theorem reinitialise_hands (hk : env.store.kind p ≠ .unused) :
    ∃ e : Ev, e.plant = (recordReplaced n p env ev).plant.setChan p (reinitialisedAt env p ev) ∧
      (reinitialise n p env ev).plant =
        (handDemand env p (resolution env ev.plant.mode p (reinitialisedAt env p ev)) e).plant := by
  obtain ⟨e, he, hz⟩ := resolvePoint_forced hk (recordReplaced n p env ev)
  rw [recordReplaced_chan, recordReplaced_mode] at he hz
  refine ⟨e, he, ?_⟩
  rw [reinitialise_plant, hz]
  have d : resolution env ev.plant.mode p (reinitialisedAt env p ev) =
      resolution env ev.plant.mode p
        (((ev.plant.chan p).reinitialised (env.store.point p)).fireStored env ev.plant.mode p) :=
    resolution_congr env _ p rfl rfl rfl rfl
  rw [d]

/-- The hand-over leaves the mode, the test record, and of the channel all but its record and its CMD. -/
theorem reinitialise_demands (hk : env.store.kind p ≠ .unused) :
    (reinitialise n p env ev).plant.mode = ev.plant.mode ∧
      (reinitialise n p env ev).plant.test = ev.plant.test ∧
      (reinitialise n p env ev).plant.chan p =
        { reinitialisedAt env p ev with
          unit := ((reinitialise n p env ev).plant.chan p).unit
          cmd := ((reinitialise n p env ev).plant.chan p).cmd } := by
  obtain ⟨e, he, hz⟩ := reinitialise_hands (n := n) (ev := ev) hk
  obtain ⟨k1, k2, -, -, -, k6⟩ := handDemand_frame sequencersOnly_frame env p
    (resolution env ev.plant.mode p (reinitialisedAt env p ev)) e
  have hp := k6 p
  rw [← hz, he, Plant.chan_setChan_self] at hp
  rw [← hz, he] at k1 k2
  exact ⟨k1.trans recordReplaced_mode, k2.trans recordReplaced_test, hp⟩

/-! ## The last fire demand (R28, R39) -/

/-- With no test running, the point's last fire demand is that of its resolution in FIRE, and else absent. -/
structure Ev.LastFireAt (env : Env) (p : Point) (v : Action) (ev : Ev) : Prop where
  test : ev.plant.test.state ≠ .running
  normal : (ev.plant.chan p).normal = v
  lastFire : (ev.plant.chan p).lastFire =
    if env.store.kind p ≠ .unused ∧ ev.plant.mode = .fire then some (fireDemand env p v).action else none

theorem Ev.LastFireAt.setChan {v : Action} {a : Ev} (h : a.LastFireAt env p v) {q : Point} {c : Channel}
    (hn : c.normal = (a.plant.chan q).normal) (hl : c.lastFire = (a.plant.chan q).lastFire) :
    (a.setChan q c).LastFireAt env p v := by
  have k : ((a.plant.setChan q c).chan p).normal = (a.plant.chan p).normal ∧
      ((a.plant.setChan q c).chan p).lastFire = (a.plant.chan p).lastFire := by
    rw [Plant.chan_setChan]
    split
    · rename_i e; subst e; exact ⟨hn, hl⟩
    · exact ⟨rfl, rfl⟩
  exact ⟨h.test, k.1.trans h.normal, k.2.trans h.lastFire⟩

theorem Upd.keeps_lastFireAt {v : Action} {Q : Prop} {a b : Ev} (u : Upd env Q a b) (h : a.LastFireAt env p v) :
    b.LastFireAt env p v := by
  cases u with
  | seq u =>
    obtain ⟨k1, k2, -, -, -, k6⟩ := u.sequencersOnly
    exact ⟨by rw [k2]; exact h.test, by rw [k6 p]; exact h.normal, by rw [k6 p, k1]; exact h.lastFire⟩
  | res u =>
    cases u with
    | book hp _ _ =>
      refine ⟨?_, ?_, ?_⟩ <;> rw [hp]
      exacts [h.test, h.normal, h.lastFire]
    | lastFire q hq hm =>
      refine ⟨h.test, ?_, ?_⟩ <;> rw [Ev.setChan_plant, Plant.chan_setChan] <;> split
      · rename_i e; subst e; exact h.normal
      · exact h.normal
      · rename_i e; subst e
        rw [Plant.setChan_mode, if_pos ⟨hq, hm⟩]
        show some (fireDemand env p (a.plant.chan p).normal).action = _
        rw [h.normal]
      · exact h.lastFire
    | noDemand q _ => exact h.setChan rfl rfl
    | demand q _ =>
      have k := h.setChan (q := q)
        (c := { a.plant.chan q with resolved := some (resolution env a.plant.mode q (a.plant.chan q)) }) rfl rfl
      exact ⟨k.test, k.normal, k.lastFire⟩
    | testDemand q x hr => exact absurd hr h.test
    | test g hr _ => exact absurd hr h.test
    | testDone hr => exact absurd hr h.test
    | restored hm =>
      have hl := h.lastFire
      rw [hm, if_neg (by simp)] at hl
      exact ⟨h.test, h.normal, hl.trans (if_neg (by simp [Ev.setMode, Ev.withPlant])).symm⟩
    | joins => exact ⟨h.test, h.normal, h.lastFire⟩

theorem reinitialised_lastFire (ht : ev.plant.test.state ≠ .running) :
    (finishEvent env (reinitialise n p env ev)).LastFireAt env p (ev.plant.chan p).normal := by
  refine (finishEvent_moves env False _ False.elim).keeps (fun _ _ u h => u.keeps_lastFireAt h) ?_
  by_cases hk : env.store.kind p = .unused
  · have e : (reinitialise n p env ev).plant = (recordReplaced n p env ev).plant.setChan p
        { (ev.plant.chan p).reinitialised (env.store.point p) with resolved := none } := by
      rw [reinitialise_plant, resolvePoint, if_pos hk, Ev.setChan_plant, recordReplaced_chan]
    refine ⟨?_, ?_, ?_⟩ <;> rw [e]
    · rw [Plant.setChan_test, recordReplaced_test]; exact ht
    · rw [Plant.chan_setChan_self]; rfl
    · rw [Plant.chan_setChan_self, if_neg (fun x => x.1 hk)]; rfl
  · obtain ⟨k1, k2, k3⟩ := reinitialise_demands (n := n) (ev := ev) hk
    refine ⟨by rw [k2]; exact ht, by rw [k3]; exact reinitialisedAt_normal, ?_⟩
    rw [k3, k1]
    show (reinitialisedAt env p ev).lastFire = _
    rw [reinitialisedAt_lastFire]
    simp [hk]

/-! ## The demand handed to the new record -/

section Handed
variable (ht : ev.plant.test.state ≠ .running) (hm : ev.plant.mode ≠ .restore) (hk : env.store.kind p ≠ .unused)
include ht hm hk

/-- The point holds the demand of R35 at the end of the event. -/
theorem reinitialised_demand :
    let t := finishEvent env (reinitialise n p env ev)
    resolution env t.plant.mode p (t.plant.chan p) =
        resolution env ev.plant.mode p (reinitialisedAt env p ev) ∧
      (t.plant.chan p).resolved = some (resolution env ev.plant.mode p (reinitialisedAt env p ev)) := by
  obtain ⟨k1, k2, k3⟩ := reinitialise_demands (n := n) (ev := ev) hk
  obtain ⟨m1, m2⟩ := finishEvent_demands (env := env) (ev := reinitialise n p env ev)
    (by rw [k2]; exact ht) (by rw [k1]; exact hm)
  dsimp only
  rw [m1, m2 p, k3, k1]
  exact ⟨resolution_congr env _ p rfl rfl rfl rfl, reinitialisedAt_resolved⟩

/-- A new record that is not a QUEUED fan is as the hand-over left it. -/
theorem reinitialised_chan {st : Store} (hst : st.SameBut p env.store) (F : ev.plant.QueueFit st)
    (hq : ∀ f, (reinitialise n p env ev).plant.fan? p = some f → f.state ≠ .queued) :
    (finishEvent env (reinitialise n p env ev)).plant.chan p = (reinitialise n p env ev).plant.chan p := by
  obtain ⟨k1, k2, -⟩ := reinitialise_demands (n := n) (ev := ev) hk
  have G : (reinitialise n p env ev).plant.QueueFit env.store := by
    rw [reinitialise_plant]
    exact (resolvePoint_moves env True true _ p).keeps_queueFit (recordReplaced_queueFit hst F)
  refine finishEvent_chan (by rw [k2]; exact ht) (by rw [k1]; exact hm) fun m => ?_
  obtain ⟨f, hf, hs⟩ := Plant.isQueued_iff.mp ((G.mem p).mp m)
  exact hq f hf hs

/-- A damper takes the demand in UNPROVEN (R72, R73); a path fan that turns at its hand-over turns at the end. -/
theorem reinitialised_damper {st : Store} (hst : st.SameBut p env.store) (F : ev.plant.QueueFit st)
    (hd : env.store.kind p = .damper) :
    ∃ turning : Bool,
      let t := finishEvent env (reinitialise n p env ev)
      let x := resolution env ev.plant.mode p (reinitialisedAt env p ev)
      let d := (Damper.afterReset (ev.plant.chan p).fba (ev.plant.chan p).fbb).takeDemand (env.store.point p) turning
        x.action.damperEnd x.source
      (t.plant.chan p).unit = .damper d ∧ (t.plant.chan p).cmd = damperCmd (env.store.point p) d ∧
        (turning = true → anyPathFanTurning env.store t.plant p = true) := by
  obtain ⟨k1, k2, -⟩ := reinitialise_demands (n := n) (ev := ev) hk
  obtain ⟨e, he, hz⟩ := reinitialise_hands (n := n) (ev := ev) hk
  have hc : (env.store.point p).kind = .damper := hd
  have hu : (e.plant.chan p).unit = .damper (.afterReset (ev.plant.chan p).fba (ev.plant.chan p).fbb) := by
    rw [he, Plant.chan_setChan_self, reinitialisedAt_unit, Equipment.afterReset, hc]
  rw [handDemand_damper hu (by simp [Damper.afterReset])] at hz
  refine ⟨anyPathFanTurning env.store e.plant p, ?_⟩
  dsimp only
  have chan := putDamper_chan_self (env := env) ((Damper.afterReset (ev.plant.chan p).fba (ev.plant.chan p).fbb).takeDemand
    (env.store.point p) (anyPathFanTurning env.store e.plant p)
    (resolution env ev.plant.mode p (reinitialisedAt env p ev)).action.damperEnd
    (resolution env ev.plant.mode p (reinitialisedAt env p ev)).source) (Plant.damper?_eq_some.mpr hu)
  rw [← hz] at chan
  have stays := reinitialised_chan (n := n) ht hm hk hst F fun f hf => by
    rw [Plant.fan?_eq_some, chan] at hf; cases hf
  rw [stays, chan]
  refine ⟨rfl, rfl, fun h => ?_⟩
  obtain ⟨q, hq, hturn⟩ := List.any_eq_true.mp h
  refine List.any_eq_true.mpr ⟨q, hq, finishEvent_turning (by rw [k2]; exact ht) (by rw [k1]; exact hm) ?_⟩
  rwa [hz, Plant.turning, putDamper_fan?]

/-- A fan takes the demand in its after-reset state (R101, R102): it holds it in RUNDOWN; with no time to run down it
stands IDLE, or waits in the queue or starts. -/
theorem reinitialised_fan {st : Store} (hst : st.SameBut p env.store) (F : ev.plant.QueueFit st)
    (hd : env.store.kind p = .fan) :
    let t := finishEvent env (reinitialise n p env ev)
    let x := resolution env ev.plant.mode p (reinitialisedAt env p ev)
    let g := (Fan.afterReset (env.store.point p) (ev.plant.chan p).fbb).handedAtRest (env.store.point p)
      x.action.fanWant x.source
    (g.state ≠ .queued → (t.plant.chan p).unit = .fan g ∧ (t.plant.chan p).cmd = false) ∧
      (g.state = .queued → ∃ f, t.plant.fan? p = some f ∧ f.held = g.held ∧ f.fault = .none ∧
        (f.state = .queued ∨ f.state = .starting)) := by
  obtain ⟨k1, k2, -⟩ := reinitialise_demands (n := n) (ev := ev) hk
  obtain ⟨e, he, hz⟩ := reinitialise_hands (n := n) (ev := ev) hk
  have hc : (env.store.point p).kind = .fan := hd
  have hu : (e.plant.chan p).unit = .fan (.afterReset (env.store.point p) (ev.plant.chan p).fbb) := by
    rw [he, Plant.chan_setChan_self, reinitialisedAt_unit, Equipment.afterReset, hc]
  have hs : (Fan.afterReset (env.store.point p) (ev.plant.chan p).fbb).state = .idle ∨
      (Fan.afterReset (env.store.point p) (ev.plant.chan p).fbb).state = .runDown := by
    rw [Fan.afterReset, Fan.norm_state]; dsimp only; split <;> simp
  have chan := handDemand_fanAtRest (env := env) hu hs
    (resolution env ev.plant.mode p (reinitialisedAt env p ev))
  rw [← hz] at chan
  dsimp only
  have fan := Plant.fan?_eq_some.mpr (congrArg Channel.unit chan)
  refine ⟨fun hq => ?_, fun hq => ?_⟩
  · have stays := reinitialised_chan (n := n) ht hm hk hst F fun f hf => by
      rw [fan] at hf; cases hf; exact hq
    rw [stays, chan]
    exact ⟨rfl, rfl⟩
  · refine finishEvent_queued (by rw [k2]; exact ht) (by rw [k1]; exact hm) fan hq ?_
    exact Fan.norm_fault_none fun x => absurd (hq.symm.trans x) (by decide)

end Handed

end Reinitialised

end Sys2Proof.Machine
end

section
/-! SUPPORT and the statement about the completion of a store write. -/

namespace Sys2Proof.Machine

/-! ## The new store and the reply -/

/-- The machine with the new store, the write over, before its effect. -/
abbrev State.storeWritten (tgt : WriteTarget) (s : State) : State :=
  { s with store := tgt.apply s.store, write := none }

/-- A completed write changes the ports by markings at most. -/
theorem completeWrite_portsMarked (tgt : WriteTarget) (s : State) : s.PortsMarked (completeWrite tgt s) := by
  have still : s.PortsMarked (s.storeWritten tgt) := fun i => PortRec.marked_refl _
  unfold completeWrite writeTakesEffect
  cases tgt with
  | point p field v => exact State.runEvent_portsMarked _ (s.storeWritten (.point p field v))
  | zone z field v =>
    intro i
    have k := zonesFollow_portsMarked s (activityEvent (s.active z) z (s.storeWritten (.zone z field v))) i
    have hp : (activityEvent (s.active z) z (s.storeWritten (.zone z field v))).port i = s.port i := by
      rw [State.port, activityEvent_ports]; rfl
    rwa [hp] at k
  | scenario z p e => exact still
  | device field v =>
    dsimp only
    split
    · exact State.runEvent_portsMarked _ (s.storeWritten (.device field v))
    · exact still

theorem completeWrite_write (tgt : WriteTarget) (s : State) : (completeWrite tgt s).write = none := by
  unfold completeWrite writeTakesEffect
  cases tgt with
  | point p field v => rfl
  | zone z field v => dsimp only; rw [zonesFollow_write, activityEvent_write]
  | scenario z p e => rfl
  | device field v => dsimp only; split <;> rfl

theorem completeWrite_pending (tgt : WriteTarget) (s : State) : (completeWrite tgt s).pending = s.pending := by
  unfold completeWrite writeTakesEffect
  cases tgt with
  | point p field v => rfl
  | zone z field v => dsimp only; rw [zonesFollow_pending, activityEvent_pending]
  | scenario z p e => rfl
  | device field v => dsimp only; split <;> rfl

/-- A reply stands beside the markings made before it. -/
theorem PortRec.Marked.withReply {r x : PortRec} (h : r.Marked x) (c : ReplyCode) (b1 b2 b3 : Byte) :
    PortRec.Marked { r.withReply c b1 b2 b3 with inProgress := none }
      { x.withReply c b1 b2 b3 with inProgress := none } := by
  refine ⟨?_, h.2.1, h.2.2⟩
  have e := h.1
  rw [e]
  rfl

/-- The write's completion, with its order in progress: its effect, then the DONE reply. -/
theorem storeWriteDone_eq {s : State} {w : StoreWrite} {o : Order} (hw : s.write = some w)
    (ho : (s.port .b).inProgress = some o) :
    storeWriteDone s = (completeWrite w.target s).replied .b o := by
  have hp : (completeWrite w.target s).ports.b.inProgress = some o := by
    have k := (completeWrite_portsMarked w.target s .b).1
    exact (congrArg PortRec.inProgress k).trans ho
  simp only [storeWriteDone, hw, hp]
  rfl

/-! ## Writes that change nothing else -/

/-- A zone record's other fields leave its contact. -/
theorem ZoneCfg.setField_contact {c d : ZoneCfg} {field v : Nat} (h : c.setField field v = some d) (hf : field ≠ 1) :
    d.contact = c.contact := by
  unfold ZoneCfg.setField at h
  split at h
  · obtain ⟨x, -, rfl⟩ := Option.map_eq_some_iff.mp h; rfl
  · exact absurd rfl hf
  · obtain ⟨x, -, rfl⟩ := Option.map_eq_some_iff.mp h; rfl
  · cases h

theorem storeWritten_active (s : State) {z : Zone} {field v : Nat} (hf : field ≠ 1) (y : Zone) :
    (s.storeWritten (.zone z field v)).active y = s.active y := by
  have k : (((WriteTarget.zone z field v).apply s.store).zone y).contact = (s.store.zone y).contact := by
    simp only [WriteTarget.apply]
    split
    · rename_i c e
      rw [Store.zone_setZone]
      split
      · rename_i e'; subst e'; exact ZoneCfg.setField_contact e hf
      · rfl
    · rfl
  show activityOf _ _ = activityOf _ _
  rw [k]
  rfl

/-- A scenario entry, a zone's mode or tZF, and a device setting other than nALW: the store changes alone. -/
theorem completeWrite_plain {s : State} {tgt : WriteTarget}
    (h : (∃ z p e, tgt = .scenario z p e) ∨ (∃ z field v, tgt = .zone z field v ∧ field ≠ 1) ∨
      ∃ field v, tgt = .device field v ∧ field ≠ 0) : completeWrite tgt s = s.storeWritten tgt := by
  unfold completeWrite writeTakesEffect
  rcases h with ⟨z, p, e, rfl⟩ | ⟨z, field, v, rfl, hf⟩ | ⟨field, v, rfl, hf⟩
  · rfl
  · have act := storeWritten_active s (z := z) (v := v) hf
    dsimp only
    rw [← act z, activityEvent_same]
    exact zonesFollow_of_unchanged rfl fun y => by
      rw [zoneChanged, act]
      simp [State.zone]
  · exact if_neg hf

/-! ## A contact write (R5) -/

section Contact
variable (s : State) (z : Zone) (v : Nat)

/-- The machine after the line event that the activity read anew brings. -/
abbrev State.contactWritten : State :=
  activityEvent (s.active z) z (s.storeWritten (.zone z 1 v))

theorem contactWritten_active (y : Zone) :
    (completeWrite (.zone z 1 v) s).active y = (s.storeWritten (.zone z 1 v)).active y :=
  (zonesFollow_active s (s.contactWritten z v) y).trans (activityEvent_active ..)

theorem contactWritten_alarms :
    (completeWrite (.zone z 1 v) s).alarms =
      if (s.zone z).isolated = true ∨ (completeWrite (.zone z 1 v) s).active z = s.active z then s.alarms
      else if (completeWrite (.zone z 1 v) s).active z = true then
        lineArrival ((completeWrite (.zone z 1 v) s).store.zone z).mode z s.alarms
      else lineClear z s.alarms := by
  have k := (zonesFollow_alarms s (s.contactWritten z v)).trans (activityEvent_alarms ..)
  rw [← contactWritten_active] at k
  simp only [eq_comm (a := s.active z)] at k
  rw [completeWrite_store]
  exact k

theorem contactWritten_zones (o : Order) : s.ZoneMarksExact ((completeWrite (.zone z 1 v) s).replied .b o) := by
  refine State.zoneMarksExact_of fun j y => ?_
  have hp : (s.contactWritten z v).port j = s.port j := by rw [State.port, activityEvent_ports]; rfl
  rw [State.replied_zones]
  refine (zonesFollow_port_zones s (s.contactWritten z v) j y).trans ?_
  rw [hp]
  exact congrArg _ (zoneChanged_zonesFollow s s (s.contactWritten z v) y).symm

theorem contactWritten_demands (o : Order) : s.DemandsMarked ((completeWrite (.zone z 1 v) s).replied .b o) := by
  intro p hk hne i
  have k := zonesFollow_demandsMarked s (s.contactWritten z v)
  rw [State.DemandsMarked, activityEvent_plant] at k
  rw [State.replied_points]
  exact k p hk hne i

theorem contactWritten_marked (o : Order)
    (h : (completeWrite (.zone z 1 v) s).active z ≠ s.active z) :
    ((completeWrite (.zone z 1 v) s).replied .b o).ZoneMarked z := by
  intro i
  rw [State.replied_zones]
  refine zonesFollow_zoneMarked s (s.contactWritten z v) z ((zoneChanged_iff ..).mpr (.inl ?_)) i
  rw [activityEvent_active, ← contactWritten_active]
  exact h

theorem contactWritten_entries : s.plant.EntriesKept (completeWrite (.zone z 1 v) s).plant := by
  have k := zonesFollow_frame entriesKept_frame s (s.contactWritten z v)
  rwa [activityEvent_plant] at k

theorem contactWritten_fire (hm : s.ModeSound) (hl : (completeWrite (.zone z 1 v) s).alarms ≠ []) :
    (completeWrite (.zone z 1 v) s).plant.mode = .fire :=
  zonesFollow_fire hm (activityEvent_plant ..) (by rwa [← zonesFollow_alarms s])

end Contact

/-! ## A write of nALW (R111) -/

theorem newLimit_frame {R : Plant → Plant → Prop} (F : SeqFrame R) (v : Nat) (ev : Ev) :
    R ev.plant (ev.newLimit v).plant := by
  unfold Ev.newLimit
  split
  · rw [Ev.evaluateIf_plant]
    exact F.sched ev.plant { ev.plant.sched with limit := v, pendingLimit := none }
  · exact F.sched ev.plant { ev.plant.sched with pendingLimit := some v }

section NewLimit
variable (s : State) (v : Nat)

theorem limitTerms_iff {pl : Plant} {v : Nat} :
    limitTerms pl v = true ↔ pl.sched.inUse ≤ v ∨ pl.nStarting ≤ 1 := by
  simp only [limitTerms, Bool.or_eq_true, decide_eq_true_eq]

/-- The new limit comes into force, and the queue is evaluated. -/
theorem newLimit_now (h : s.plant.sched.inUse ≤ v ∨ s.plant.nStarting ≤ 1) :
    (Ev.start s.plant).newLimit v =
      (Ev.start { s.plant with sched := { s.plant.sched with limit := v, pendingLimit := none } }).evaluateIf true :=
  if_pos (limitTerms_iff.mpr h)

theorem limitWritten_now (h : s.plant.sched.inUse ≤ v ∨ s.plant.nStarting ≤ 1) :
    (completeWrite (.device 0 v) s).plant.sched.limit = v ∧
      (completeWrite (.device 0 v) s).plant.sched.pendingLimit = none := by
  have e : (completeWrite (.device 0 v) s).plant =
      (finishEvent (s.storeWritten (.device 0 v)).env ((Ev.start s.plant).newLimit v)).plant := rfl
  rw [e, newLimit_now s v h]
  have k := (finishEvent_moves (s.storeWritten (.device 0 v)).env False
    ((Ev.start { s.plant with sched := { s.plant.sched with limit := v, pendingLimit := none } }).evaluateIf true)
    False.elim).limitKept rfl
  exact ⟨k.2, k.1⟩

/-- An event whose one cause is an evaluation of an empty queue. -/
theorem finishEvent_empty (env : Env) {pl : Plant} (h : pl.sched.queue = []) :
    (finishEvent env ((Ev.start pl).evaluateIf true)).plant = pl := by
  have e : settleAll env ((Ev.start pl).evaluateIf true) = (Ev.start pl).evaluateIf true := by
    simp [settleAll, settle, Config.settleRounds]
  simp [finishEvent, e, evaluate, h, evaluationWalk, Ev.withPlant]

theorem limitWritten_empty (h : s.plant.sched.inUse ≤ v ∨ s.plant.nStarting ≤ 1) (hq : s.plant.sched.queue = []) :
    (completeWrite (.device 0 v) s).plant =
      { s.plant with sched := { s.plant.sched with limit := v, pendingLimit := none } } := by
  have e : (completeWrite (.device 0 v) s).plant =
      (finishEvent (s.storeWritten (.device 0 v)).env ((Ev.start s.plant).newLimit v)).plant := rfl
  rw [e, newLimit_now s v h]
  exact finishEvent_empty _ hq

/-- The new limit waits. -/
theorem limitWritten_later (hu : v < s.plant.sched.inUse) (hs : 1 < s.plant.nStarting) :
    (completeWrite (.device 0 v) s).plant =
      { s.plant with sched := { s.plant.sched with pendingLimit := some v } } := by
  have n : ¬limitTerms s.plant v = true := by rw [limitTerms_iff]; omega
  have e : (s.storeWritten (.device 0 v)).runEvent (fun _ ev => ev.newLimit v) =
      { s.storeWritten (.device 0 v) with
        plant := { s.plant with sched := { s.plant.sched with pendingLimit := some v } } } :=
    State.runEvent_quiet (if_neg n)
  exact congrArg State.plant e

theorem limitWritten_entries : s.plant.EntriesKept (completeWrite (.device 0 v) s).plant := by
  refine runEvent_frame entriesKept_frame (fun _ ev => ev.newLimit v) (s.storeWritten (.device 0 v)) ?_
  exact newLimit_frame entriesKept_frame.toSeqFrame v (Ev.start s.plant)

end NewLimit

/-! ## A point-field write (R39, R73, R102) -/

section PointWrite
variable (s : State) (p : Point) (field v : Nat)

/-- The end of the event of a point-field write. -/
abbrev State.pointWritten : Ev :=
  finishEvent (s.storeWritten (.point p field v)).env
    (reinitialise (s.store.point p).nUNIT p (s.storeWritten (.point p field v)).env (.start s.plant))

theorem pointWritten_sameBut :
    s.store.SameBut p (s.storeWritten (.point p field v)).env.store := fun q hq =>
  WriteTarget.apply_point_ne fun p' _ _ e => by cases e; exact hq

theorem pointWritten_marked (o : Order) : ((completeWrite (.point p field v) s).replied .b o).PointMarked p := by
  intro i
  rw [State.replied_points]
  exact State.runEvent_pointMarked _ (s.storeWritten (.point p field v)) p mem_reinitialised_marks i

end PointWrite

/-- The record of a re-initialised fan with a time to run down (R101). -/
theorem Fan.afterReset_handed {c : PointCfg} (h : 0 < c.tRD) (fbb : Level) (w : FanWant) (src : Source) :
    (Fan.afterReset c fbb).handedAtRest c w src =
      { state := .runDown, fault := .none
        held := some { want := w, source := src }
        wait := none, runDown := .running (8 * c.tRD) 0, proofLimit := .idle
        driveAlarm := driveFaultIndicated c fbb
        fbbFilt := { filtered := fbb, timer := .idle }
        proof :=
          { gate := .idle, count := 0, expected := 0, low := 0, high := 0, inRun := 0, outRun := 0
            lastCount := 0, lastE := 0 }
        speed := { applied := 0, pending := none, phase := 0 } } := by
  have hn : c.tRD ≠ 0 := Nat.pos_iff_ne_zero.mp h
  have hl : Timer.load (8 * c.tRD) = .running (8 * c.tRD) 0 := Timer.load_pos (by omega)
  simp [Fan.handedAtRest, Fan.afterReset, Fan.norm, hn, hl, Filter.settled, FanState.energised, RunProof.afterReset,
    SpeedRef.atRest]

/-- With no time to run down the fan is IDLE, or QUEUED if it is to run. -/
theorem Fan.afterReset_handed_state {c : PointCfg} (h : c.tRD = 0) (fbb : Level) (w : FanWant) (src : Source) :
    ((Fan.afterReset c fbb).handedAtRest c w src).state = if w = .stop then .idle else .queued := by
  cases w <;> simp [Fan.handedAtRest, Fan.afterReset, Fan.norm_state, h]

section Handed
variable {s : State} {p : Point} {field v : Nat} (ht : s.NoTest) (hm : s.plant.mode ≠ .restore)
  (hk : (s.storeWritten (.point p field v)).store.kind p ≠ .unused)
include ht hm hk

/-- The demand of R35, at the end of the event, and that it was handed to the new record. -/
theorem pointWritten_demand :
    let env := (s.storeWritten (.point p field v)).env
    let t := (s.pointWritten p field v).plant
    resolution env t.mode p (t.chan p) =
        resolution env s.plant.mode p (reinitialisedAt env p (.start s.plant)) ∧
      (t.chan p).resolved = some (resolution env t.mode p (t.chan p)) := by
  obtain ⟨hx, hr⟩ := reinitialised_demand (env := (s.storeWritten (.point p field v)).env) (ev := .start s.plant)
    (n := (s.store.point p).nUNIT) ht hm hk
  exact ⟨hx, hr.trans (congrArg some hx.symm)⟩

variable (hh : s.held = false) (hq : s.QueueSound)
include hh hq

theorem pointWritten_damper (hd : (s.storeWritten (.point p field v)).store.kind p = .damper) :
    let env := (s.storeWritten (.point p field v)).env
    let t := (s.pointWritten p field v).plant
    let x := resolution env t.mode p (t.chan p)
    ∃ d turning, t.damper? p = some d ∧ (t.chan p).cmd = damperCmd (env.store.point p) d ∧
      d = Damper.takeDemand (env.store.point p) turning x.action.damperEnd x.source
        (.afterReset (s.plant.chan p).fba (s.plant.chan p).fbb) ∧
      (turning = true → anyPathFanTurning env.store t p = true) := by
  obtain ⟨hx, -⟩ := pointWritten_demand (field := field) (v := v) ht hm hk
  obtain ⟨turning, hu, hc, hturn⟩ := reinitialised_damper (env := (s.storeWritten (.point p field v)).env)
    (ev := .start s.plant) (n := (s.store.point p).nUNIT) ht hm hk (pointWritten_sameBut s p field v)
    ⟨(hq hh).1, (hq hh).2⟩ hd
  exact ⟨_, turning, Plant.damper?_eq_some.mpr hu, hc, by rw [hx]; rfl, hturn⟩

theorem pointWritten_fan (hd : (s.storeWritten (.point p field v)).store.kind p = .fan) :
    let env := (s.storeWritten (.point p field v)).env
    let c := env.store.point p
    let t := (s.pointWritten p field v).plant
    let x := resolution env t.mode p (t.chan p)
    ∃ f, t.fan? p = some f ∧ f.fault = .none ∧ f.held = some { want := x.action.fanWant, source := x.source } ∧
      (0 < c.tRD → (t.chan p).cmd = false ∧
        f = (Fan.afterReset c (s.plant.chan p).fbb).handedAtRest c x.action.fanWant x.source) ∧
      (c.tRD = 0 → (f.wantsRun = false → f.state = .idle) ∧
        (f.wantsRun = true → f.state = .queued ∨ f.state = .starting)) := by
  obtain ⟨hx, -⟩ := pointWritten_demand (field := field) (v := v) ht hm hk
  obtain ⟨hrest, hwaits⟩ := reinitialised_fan (env := (s.storeWritten (.point p field v)).env)
    (ev := .start s.plant) (n := (s.store.point p).nUNIT) ht hm hk (pointWritten_sameBut s p field v)
    ⟨(hq hh).1, (hq hh).2⟩ hd
  simp only [Ev.start_plant] at hx hrest hwaits ⊢
  rw [hx]
  generalize resolution _ s.plant.mode p (reinitialisedAt _ p (.start s.plant)) = x at hrest hwaits
  generalize (s.storeWritten (.point p field v)).env.store.point p = c at hrest hwaits ⊢
  by_cases h0 : c.tRD = 0
  · have hs := Fan.afterReset_handed_state h0 (s.plant.chan p).fbb x.action.fanWant x.source
    by_cases hw : x.action.fanWant = .stop
    · rw [if_pos hw] at hs
      obtain ⟨hu, -⟩ := hrest (by rw [hs]; decide)
      refine ⟨_, Plant.fan?_eq_some.mpr hu, Fan.norm_fault_none fun e => absurd (hs.symm.trans e) (by decide), rfl,
        fun h => absurd h0 (by omega), fun _ => ⟨fun _ => hs, fun hr => ?_⟩⟩
      simp [Fan.wantsRun, Fan.handedAtRest, hw] at hr
    · rw [if_neg hw] at hs
      obtain ⟨f, hf, hh', hfault, hst⟩ := hwaits hs
      refine ⟨f, hf, hfault, hh', fun h => absurd h0 (by omega), fun _ => ⟨fun hr => ?_, fun _ => hst⟩⟩
      have held : f.held = some { want := x.action.fanWant, source := x.source } := hh'
      cases hw' : x.action.fanWant with
      | stop => exact absurd hw' hw
      | run n => simp [Fan.wantsRun, held, hw'] at hr
  · have e := Fan.afterReset_handed (Nat.pos_of_ne_zero h0) (s.plant.chan p).fbb x.action.fanWant x.source
    obtain ⟨hu, hc⟩ := hrest (by rw [e]; simp)
    exact ⟨_, Plant.fan?_eq_some.mpr hu, by rw [e], by rw [e], fun _ => ⟨hc, rfl⟩, fun h => absurd h h0⟩

end Handed

/-- Settles O56: each write by its own effect, and the reply beside what the effect marks. -/
theorem storeWriteCompletes : Obligations.StoreWriteCompletes := by
  refine ⟨fun s hh hw => ?_, fun s w o hh hw ho _ => ?_⟩
  · show Host.Outcome.next (s.unlessHeld storeWriteDone) = _
    simp [State.unlessHeld, hh, storeWriteDone, hw]
  have e : exec .storeWriteCompletes s = .next ((completeWrite w.target s).replied .b o) := by
    show Host.Outcome.next (s.unlessHeld storeWriteDone) = _
    rw [State.unlessHeld, if_neg (by simp [hh]), storeWriteDone_eq hw ho]
  have marked := completeWrite_portsMarked w.target s
  refine ⟨_, e, completeWrite_store .., completeWrite_write .., (completeWrite_held ..).trans hh,
    completeWrite_pending .., completeWrite_zones .., (marked .b).withReply .done o.b1 o.b2 o.b3, marked .a, marked .f,
    fun h => by rw [completeWrite_plain h]; rfl, fun z v hz => ?_, fun v hv => ?_, fun p field v hp => ?_⟩
  · rw [hz]
    exact ⟨contactWritten_entries s z v, contactWritten_marked s z v o, contactWritten_zones s z v o,
      contactWritten_demands s z v o, contactWritten_alarms s z v, fun hm _ hl => contactWritten_fire s z v hm hl⟩
  · rw [hv]
    exact ⟨completeWrite_alarms (.device 0 v) s, limitWritten_entries s v,
      fun h => ⟨(limitWritten_now s v h).1, (limitWritten_now s v h).2, limitWritten_empty s v h⟩,
      limitWritten_later s v⟩
  · rw [hp]
    refine ⟨reinitialised_kind, completeWrite_alarms (.point p field v) s, pointWritten_marked s p field v o,
      fun hk => ?_, reinitialised_normal, fun ht => ?_, fun ht hq hm hk => ?_⟩
    · have k := reinitialised_idle (env := (s.storeWritten (.point p field v)).env) (p := p)
        (ev := .start s.plant) (n := (s.store.point p).nUNIT) hk
      exact ⟨k.resolved, k.override, k.cmd⟩
    · have k := reinitialised_lastFire (env := (s.storeWritten (.point p field v)).env) (p := p)
        (ev := .start s.plant) (n := (s.store.point p).nUNIT) ht
      exact k.lastFire.trans (by rw [← k.normal]; rfl)
    · refine ⟨(pointWritten_demand ht hm hk).2, pointWritten_damper ht hm hk hh hq, fun hd => ?_⟩
      obtain ⟨f, hf, hfault, hheld, hdown, hzero⟩ := pointWritten_fan ht hm hk hh hq hd
      exact ⟨f, hf, hfault, hheld,
        fun h => ⟨(hdown h).1, (hdown h).2.trans (Fan.afterReset_handed h _ _ _)⟩, hzero⟩

end Sys2Proof.Machine
end

section
/-! SUPPORT. The events of the plant in two groups: those at the lines and timers, which change the sequencers' records,
the scheduler, the supply monitor and the lines alone, and those that reach the resolver or the test unit
(`PlantEvent.cases_line`). -/

namespace Sys2Proof.Machine

/-! ## Events at lines and timers -/

/-- A relation between plants that also holds across a change of a feedback line and of the supply monitor. -/
structure LineFrame (R : Plant → Plant → Prop) : Prop extends SeqFrame R where
  line : ∀ pl p i level, R pl (pl.setChan p ((pl.chan p).setLine i level))
  supply : ∀ pl su, R pl { pl with supply := su }

section Lines
variable {R : Plant → Plant → Prop} (F : LineFrame R)
include F

theorem withSupply_lineFrame (g : Supply → Supply) (ev : Ev) : R ev.plant (ev.withSupply g).plant :=
  F.supply ev.plant (g ev.plant.supply)

theorem limitFilterTakes_lineFrame (env : Env) (p : Point) (i : LimitInput) (d : Damper) (f : Filter) (ev : Ev) :
    R ev.plant (limitFilterTakes env p i d f ev).plant := by
  unfold limitFilterTakes
  dsimp only
  split
  · exact putDamper_frame F.toSeqFrame ..
  · exact moveDamper_frame F.toSeqFrame ..

theorem limitTimerOut_lineFrame (p : Point) (i : LimitInput) (env : Env) (ev : Ev) :
    R ev.plant (limitTimerOut p i env ev).plant := by
  unfold limitTimerOut
  split
  · exact F.refl _
  · split
    · exact limitFilterTakes_lineFrame F ..
    · exact F.refl _

theorem strokeTimerOut_lineFrame (p : Point) (env : Env) (ev : Ev) :
    R ev.plant (strokeTimerOut p env ev).plant := by
  unfold strokeTimerOut
  split
  · exact F.refl _
  · split
    · exact moveDamper_frame F.toSeqFrame ..
    · exact F.refl _

theorem gateTimerOut_lineFrame (p : Point) (env : Env) (ev : Ev) : R ev.plant (gateTimerOut p env ev).plant := by
  unfold gateTimerOut
  split
  · exact F.refl _
  · split
    · exact putFan_frame F.toSeqFrame ..
    · exact F.refl _

theorem proofLimitOut_lineFrame (p : Point) (env : Env) (ev : Ev) : R ev.plant (proofLimitOut p env ev).plant := by
  unfold proofLimitOut
  split
  · exact F.refl _
  · split
    · exact putFan_frame F.toSeqFrame ..
    · exact F.refl _

theorem runDownTimerOut_lineFrame (p : Point) (env : Env) (ev : Ev) :
    R ev.plant (runDownTimerOut p env ev).plant := by
  unfold runDownTimerOut
  split
  · exact F.refl _
  · split
    · exact runDownEnds_frame F.toSeqFrame ..
    · exact F.refl _

theorem boundaryOut_lineFrame (p : Point) (env : Env) (ev : Ev) : R ev.plant (boundaryOut p env ev).plant := by
  unfold boundaryOut
  split
  · exact F.refl _
  · split
    · exact putFan_frame F.toSeqFrame ..
    · exact F.refl _

theorem driveFilterTakes_lineFrame (env : Env) (p : Point) (f : Fan) (g : Filter) (ev : Ev) :
    R ev.plant (driveFilterTakes env p f g ev).plant := by
  unfold driveFilterTakes
  dsimp only
  split <;> exact putFan_frame F.toSeqFrame ..

theorem driveTimerOut_lineFrame (p : Point) (env : Env) (ev : Ev) : R ev.plant (driveTimerOut p env ev).plant := by
  unfold driveTimerOut
  split
  · exact F.refl _
  · split
    · exact driveFilterTakes_lineFrame F ..
    · exact F.refl _

theorem countEdge_lineFrame (p : Point) (ev : Ev) : R ev.plant (countEdge p ev).plant := by
  unfold countEdge
  split
  · exact F.refl _
  · rename_i f h
    split
    · exact setFan_frame F.toSeqFrame { f with proof := f.proof.edge } (ev.plant.chan p).cmd h
    · exact F.refl _

theorem feedbackLine_lineFrame (p : Point) (i : LimitInput) (level : Level) (env : Env) (ev : Ev) :
    R ev.plant (feedbackLine p i level env ev).plant := by
  have k : R ev.plant (ev.setChan p ((ev.plant.chan p).setLine i level)).plant := F.line ..
  unfold feedbackLine damperLine driveLine
  dsimp only
  split
  · exact F.refl _
  · split
    · exact k
    · split
      · exact F.trans k (limitFilterTakes_lineFrame F ..)
      · exact k
    · split
      · split
        · exact F.trans k (countEdge_lineFrame F ..)
        · exact k
      · split
        · exact F.trans k (driveFilterTakes_lineFrame F ..)
        · exact k

theorem risingEdge_lineFrame (p : Point) (env : Env) (ev : Ev) : R ev.plant (risingEdge p env ev).plant := by
  unfold risingEdge
  dsimp only
  split
  · exact F.trans (F.line ev.plant p .fba .high) (countEdge_lineFrame F p (ev.setChan p _))
  · exact feedbackLine_lineFrame F ..

theorem spacingOut_lineFrame (env : Env) (ev : Ev) : R ev.plant (spacingOut env ev).plant := by
  unfold spacingOut
  split
  · rw [Ev.evaluateIf_plant]
    exact withSched_frame F.toSeqFrame _ ev
  · exact F.refl _

theorem supplyActivity_lineFrame (env : Env) (active : Bool) (ev : Ev) :
    R ev.plant (supplyActivity env active ev).plant := by
  unfold supplyActivity
  split
  · rw [Ev.evaluateIf_plant]
    exact F.trans (withSupply_lineFrame F _ ev) (supplyTrip_frame F.toSeqFrame env _)
  · rw [Ev.evaluateIf_plant]
    exact withSupply_lineFrame F _ ev
  · rw [Ev.evaluateIf_plant]
    exact withSupply_lineFrame F _ ev
  · exact F.refl _

theorem supplyFilterTakes_lineFrame (env : Env) (g : Filter) (ev : Ev) :
    R ev.plant (supplyFilterTakes env g ev).plant := by
  unfold supplyFilterTakes
  dsimp only
  split
  · exact withSupply_lineFrame F _ ev
  · exact F.trans (withSupply_lineFrame F _ ev) (supplyActivity_lineFrame F ..)

theorem supfailLine_lineFrame (level : Level) (env : Env) (ev : Ev) :
    R ev.plant (supfailLine level env ev).plant := by
  unfold supfailLine
  dsimp only
  split
  · exact F.refl _
  · exact F.trans (withSupply_lineFrame F _ ev) (supplyFilterTakes_lineFrame F ..)

theorem supfailTimerOut_lineFrame (env : Env) (ev : Ev) : R ev.plant (supfailTimerOut env ev).plant := by
  unfold supfailTimerOut
  dsimp only
  split
  · exact supplyFilterTakes_lineFrame F ..
  · exact F.refl _

theorem settleTimerOut_lineFrame (env : Env) (ev : Ev) : R ev.plant (settleTimerOut env ev).plant := by
  unfold settleTimerOut
  dsimp only
  split
  · rw [Ev.evaluateIf_plant]
    exact withSupply_lineFrame F _ ev
  · exact F.refl _

theorem resetFan_lineFrame (p : Point) (f : Fan) (env : Env) (ev : Ev) :
    R ev.plant (resetFan p f env ev).plant := by
  unfold resetFan
  dsimp only
  split
  · exact F.trans (putFan_frame F.toSeqFrame ..) (putFan_frame F.toSeqFrame ..)
  · exact putFan_frame F.toSeqFrame ..

end Lines

/-! ## The two groups -/

/-- The events that reach the resolver or the test unit before their reports are taken up. -/
inductive ResolverEvent (s : State) : (Env → Ev → Ev) → Prop
  | joining : ResolverEvent s joiningReportTaken
  | override (p : Point) (v : Override) (h : v ≠ .auto → s.store.kind p ≠ .unused) :
      ResolverEvent s fun env ev => resolvePoint env false (setOverride p v ev) p
  | allAuto : ResolverEvent s allOverridesAuto
  | setNormal (p : Point) (a : Action) (h : s.plant.mode ≠ .commission) : ResolverEvent s (setNormal p a)
  | beginTest (first count : Nat) (h : s.plant.mode = .normal) (h0 : count ≠ 0) (h1 : first + count ≤ 64) :
      ResolverEvent s (beginTest first count)
  | haltTest (h : s.plant.test.state = .running) : ResolverEvent s haltTest
  | commission (h : s.plant.mode = .normal) :
      ResolverEvent s fun env ev => resolveAll env false (ev.setMode .commission)
  | decommission (h : s.plant.mode = .commission) :
      ResolverEvent s fun env ev => resolveAll env false (ev.setMode .normal)

/-- An event of the plant is within every frame of the lines, or reaches the resolver or the test unit. -/
theorem PlantEvent.cases_line {s : State} {g : Env → Ev → Ev} (e : PlantEvent s g) :
    (∀ R : Plant → Plant → Prop, LineFrame R → R s.plant (g s.env (.start s.plant)).plant) ∨ ResolverEvent s g := by
  cases e with
  | limitTimer p i => exact .inl fun _ F => limitTimerOut_lineFrame F p i _ (.start s.plant)
  | strokeTimer p => exact .inl fun _ F => strokeTimerOut_lineFrame F p _ (.start s.plant)
  | gateTimer p => exact .inl fun _ F => gateTimerOut_lineFrame F p _ (.start s.plant)
  | proofLimit p => exact .inl fun _ F => proofLimitOut_lineFrame F p _ (.start s.plant)
  | runDownTimer p => exact .inl fun _ F => runDownTimerOut_lineFrame F p _ (.start s.plant)
  | boundary p => exact .inl fun _ F => boundaryOut_lineFrame F p _ (.start s.plant)
  | driveTimer p => exact .inl fun _ F => driveTimerOut_lineFrame F p _ (.start s.plant)
  | spacing => exact .inl fun _ F => spacingOut_lineFrame F _ (.start s.plant)
  | supfailTimer => exact .inl fun _ F => supfailTimerOut_lineFrame F _ (.start s.plant)
  | settleTimer => exact .inl fun _ F => settleTimerOut_lineFrame F _ (.start s.plant)
  | feedback p i level => exact .inl fun _ F => feedbackLine_lineFrame F p i level _ (.start s.plant)
  | edge p => exact .inl fun _ F => risingEdge_lineFrame F p _ (.start s.plant)
  | supfail level => exact .inl fun _ F => supfailLine_lineFrame F level _ (.start s.plant)
  | clearFault p d h => exact .inl fun _ F => putDamper_frame F.toSeqFrame _ p _ (.start s.plant)
  | resetFan p f h hf => exact .inl fun _ F => resetFan_lineFrame F p f _ (.start s.plant)
  | joining => exact .inr .joining
  | override p v h => exact .inr (.override p v h)
  | allAuto => exact .inr .allAuto
  | setNormal p a h => exact .inr (.setNormal p a h)
  | beginTest first count h h0 h1 => exact .inr (.beginTest first count h h0 h1)
  | haltTest h => exact .inr (.haltTest h)
  | commission h => exact .inr (.commission h)
  | decommission h => exact .inr (.decommission h)

/-- What the events at lines and timers leave of the resolver and the test unit: the mode, the test record, and of every
channel all but its lines, its record and its CMD. -/
structure Plant.LinesOnly (a b : Plant) : Prop where
  mode : b.mode = a.mode
  test : b.test = a.test
  chans : ∀ p, b.chan p =
    { a.chan p with fba := (b.chan p).fba, fbb := (b.chan p).fbb, unit := (b.chan p).unit, cmd := (b.chan p).cmd }
  kinds : ∀ p, (b.chan p).unit.kind = (a.chan p).unit.kind

theorem linesOnly_frame : LineFrame Plant.LinesOnly where
  refl _ := ⟨rfl, rfl, fun _ => rfl, fun _ => rfl⟩
  trans h k :=
    ⟨k.mode.trans h.mode, k.test.trans h.test, fun p => by rw [k.chans p, h.chans p],
      fun p => (k.kinds p).trans (h.kinds p)⟩
  unit pl p u b h := by
    refine ⟨rfl, rfl, fun q => ?_, fun q => ?_⟩ <;> rw [Plant.chan_setChan] <;> split
    · rename_i e; subst e; rfl
    · rfl
    · rename_i e; subst e; exact h
    · rfl
  sched _ _ := ⟨rfl, rfl, fun _ => rfl, fun _ => rfl⟩
  supply _ _ := ⟨rfl, rfl, fun _ => rfl, fun _ => rfl⟩
  line pl p i level := by
    refine ⟨rfl, rfl, fun q => ?_, fun q => ?_⟩ <;> rw [Plant.chan_setChan] <;> split
    · rename_i e; subst e; cases i <;> rfl
    · rfl
    · rename_i e; subst e; cases i <;> rfl
    · rfl

end Sys2Proof.Machine
end

section
/-! SUPPORT and the statements about the mode and the test record: the mode is FIRE exactly while the list is not empty, a
test runs exactly in TEST, and a test's results stand in the order and the range of its points. -/

namespace Sys2Proof.Machine

/-! ## The mode, the list and the test (R40, R46) -/

/-- FIRE exactly while the list `l` is not empty, and a test RUNNING exactly in TEST. -/
def Plant.ModeFit (l : List AlarmEntry) (pl : Plant) : Prop :=
  (pl.mode = .fire ↔ l ≠ []) ∧ (pl.test.state = .running ↔ pl.mode = .test)

theorem Plant.ModeFit.congr {l : List AlarmEntry} {a b : Plant} (h : a.ModeFit l) (hm : b.mode = a.mode)
    (ht : b.test = a.test) : b.ModeFit l := by
  unfold Plant.ModeFit
  rw [hm, ht]
  exact h

theorem Plant.ModeFit.list_nil {l : List AlarmEntry} {pl : Plant} (h : pl.ModeFit l) (hm : pl.mode ≠ .fire) :
    l = [] := by
  by_contra hl
  exact hm (h.1.mpr hl)

/-- Outside FIRE and TEST: the list is empty and no test runs. -/
theorem Plant.modeFit_of_nil {l : List AlarmEntry} {pl : Plant} (hl : l = []) (hf : pl.mode ≠ .fire)
    (ht : pl.mode ≠ .test) (hr : pl.test.state ≠ .running) : pl.ModeFit l := by
  simp [Plant.ModeFit, hl, hf, ht, hr]

/-- Every update keeps it: a test that is done and a restore that completes leave NORMAL. -/
theorem Upd.keeps_modeFit {env : Env} {Q : Prop} {a b : Ev} (u : Upd env Q a b) (h : a.plant.ModeFit env.alarms) :
    b.plant.ModeFit env.alarms := by
  have ⟨hf, ht⟩ := h
  cases u with
  | seq u => exact h.congr u.sequencersOnly.1 u.sequencersOnly.2.1
  | res u =>
    cases u with
    | book hp _ _ => rw [hp]; exact h.congr rfl rfl
    | test g hr hg => exact ⟨hf, fun _ => ht.mp hr, fun _ => hg⟩
    | testDone hr =>
      have hl := h.list_nil (by rw [ht.mp hr]; decide)
      exact Plant.modeFit_of_nil hl (by simp) (by simp) (by simp [Ev.setMode, Ev.withTest])
    | restored hm =>
      have hl := h.list_nil (by rw [hm]; decide)
      exact Plant.modeFit_of_nil hl (by simp) (by simp) fun x => by rw [hm] at ht; cases ht.mp x
    | _ => exact h.congr rfl rfl

theorem Moves.keeps_modeFit {env : Env} {Q : Prop} {a b : Ev} (m : Moves env Q a b)
    (h : a.plant.ModeFit env.alarms) : b.plant.ModeFit env.alarms :=
  m.keeps (P := fun x => x.plant.ModeFit env.alarms) (fun _ _ u => u.keeps_modeFit) h

/-- What every update keeps of an event's plant, the machine keeps if the event's first part does. -/
theorem State.runEvent_keeps {P : Plant → Prop} {s : State} {g : Env → Ev → Ev}
    (hu : ∀ a b, Upd s.env False a b → P a.plant → P b.plant) (h : P (g s.env (.start s.plant)).plant) :
    P (s.runEvent g).plant := by
  rw [State.runEvent_plant]
  exact (finishEvent_moves s.env False _ False.elim).keeps (P := fun x => P x.plant) hu h

theorem State.runEvent_modeFit {s : State} {g : Env → Ev → Ev}
    (h : (g s.env (.start s.plant)).plant.ModeFit s.alarms) : (s.runEvent g).plant.ModeFit s.alarms :=
  State.runEvent_keeps (P := Plant.ModeFit s.alarms) (fun _ _ u => u.keeps_modeFit) h

/-- Override entries set to AUTO leave everything of the event but the channels. -/
theorem setOverrides_eq (ps : List Point) (ev : Ev) :
    ∃ v, ps.foldl (fun ev p => setOverride p .auto ev) ev = { ev with plant := { ev.plant with chans := v } } := by
  induction ps generalizing ev with
  | nil => exact ⟨_, rfl⟩
  | cons p ps ih =>
    obtain ⟨v, e⟩ := ih (setOverride p .auto ev)
    exact ⟨v, e⟩

theorem ResolverEvent.keeps_modeFit {s : State} {g : Env → Ev → Ev} (e : ResolverEvent s g)
    (h : s.plant.ModeFit s.alarms) : (g s.env (.start s.plant)).plant.ModeFit s.alarms := by
  -- a chain of updates from a plant with the mode and the test record of a fit one
  have chain {pl : Plant} {a b : Ev} (k : pl.ModeFit s.alarms) (m : Moves s.env False a b)
      (hm : a.plant.mode = pl.mode) (ht : a.plant.test = pl.test) : b.plant.ModeFit s.alarms :=
    m.keeps_modeFit (k.congr hm ht)
  have ⟨hf, ht⟩ := h
  cases e with
  | joining =>
    unfold joiningReportTaken
    split
    · exact h
    · exact chain h (takeJoinReport_moves s.env False _ _) rfl rfl
  | override p v _ => exact chain h (resolvePoint_moves s.env False false _ p) rfl rfl
  | allAuto =>
    obtain ⟨v, e⟩ := setOverrides_eq (allPoints.filter fun p => (s.plant.chan p).override != .auto) (.start s.plant)
    refine chain h (a := Ev.draw { Ev.start s.plant with plant := { s.plant with chans := v } }) ?_ rfl rfl
    unfold allOverridesAuto
    dsimp only [Ev.start_plant]
    rw [e]
    exact foldl_moves _ (resolveReleased_moves s.env False) _ _
  | setNormal p a _ =>
    unfold Machine.setNormal
    dsimp only
    split
    · exact chain h (resolvePoint_moves s.env False false _ p) rfl rfl
    · exact h
  | beginTest first count hm _ _ =>
    unfold Machine.beginTest
    refine Moves.keeps_modeFit (env := s.env) ((resolveAll_moves s.env False false _).trans
      (beginSteps_moves s.env False ?_ count first)) ?_
    · rw [resolveAll_test]; rfl
    · simp [Plant.ModeFit, h.list_nil (by rw [hm]; decide), State.env]
  | haltTest hr =>
    refine Moves.keeps_modeFit (env := s.env) (resolveAll_moves s.env False false _) ?_
    exact Plant.modeFit_of_nil (h.list_nil (by rw [ht.mp hr]; decide)) (by simp) (by simp) (abortTest_not_running _)
  | commission hm =>
    refine Moves.keeps_modeFit (env := s.env) (resolveAll_moves s.env False false _) ?_
    exact Plant.modeFit_of_nil (h.list_nil (by rw [hm]; decide)) (by simp) (by simp)
      fun x => by rw [hm] at ht; cases ht.mp x
  | decommission hm =>
    refine Moves.keeps_modeFit (env := s.env) (resolveAll_moves s.env False false _) ?_
    exact Plant.modeFit_of_nil (h.list_nil (by rw [hm]; decide)) (by simp) (by simp)
      fun x => by rw [hm] at ht; cases ht.mp x

theorem PlantEvent.keeps_modeFit {s : State} {g : Env → Ev → Ev} (e : PlantEvent s g)
    (h : s.plant.ModeFit s.alarms) : (g s.env (.start s.plant)).plant.ModeFit s.alarms := by
  rcases e.cases_line with k | k
  · have l := k _ linesOnly_frame
    exact h.congr l.mode l.test
  · exact k.keeps_modeFit h

/-- The mode after a report is FIRE exactly if the list is not empty (R41, R42). -/
theorem modeAfterReport_fire_iff (m : Mode) (l : List AlarmEntry) :
    modeAfterReport m l.isEmpty = .fire ↔ l ≠ [] := by
  cases l <;> simp [modeAfterReport]
  split <;> simp_all

/-- A report of the list sets the mode by it and leaves a test RUNNING in TEST only. -/
theorem listReport_modeFit {env : Env} {ev : Ev} (ht : ev.plant.test.state = .running ↔ ev.plant.mode = .test) :
    (listReport env ev).plant.ModeFit env.alarms := by
  have hfire := modeAfterReport_fire_iff ev.plant.mode env.alarms
  refine (listReport_moves env False ev).keeps_modeFit ⟨hfire, ?_⟩
  show (if ev.plant.mode = .test ∧ _ then abortTest ev else ev).plant.test.state = .running ↔
    modeAfterReport ev.plant.mode env.alarms.isEmpty = .test
  split
  · rename_i h
    rw [h.2]
    exact ⟨fun x => absurd x (abortTest_not_running ev), fun x => by cases x⟩
  · rename_i h
    rw [ht]
    cases hl : env.alarms <;> cases hm : ev.plant.mode <;> simp_all [modeAfterReport]

/-- The end of an event at the zones, which leaves the plant to the report, sets the mode by the list. -/
theorem zonesFollow_modeSound {s u : State} (hp : u.plant = s.plant) (h : s.ModeSound) :
    (zonesFollow s u).ModeSound := by
  by_cases e : s.alarms = u.alarms
  · rw [zonesFollow_of_list_eq e]
    show u.plant.ModeFit u.alarms
    rw [hp, ← e]
    exact h
  · rw [zonesFollow_of_list_ne e]
    refine State.runEvent_modeFit (s := { u with ports := _ }) (listReport_modeFit ?_)
    show u.plant.test.state = .running ↔ u.plant.mode = .test
    rw [hp]
    exact h.2

/-- A completed write leaves the mode and the test record to what it brings. -/
theorem reinitialise_keeps {P : Plant → Prop} {env : Env} (hu : ∀ a b, Upd env False a b → P a.plant → P b.plant)
    (hs : ∀ a b : Plant, b.mode = a.mode → b.test = a.test → P a → P b) (n : Nat) (p : Point) {ev : Ev}
    (h : P ev.plant) : P (reinitialise n p env ev).plant := by
  refine (reinitialise_moves n p env False ev).keeps (P := fun x => P x.plant) hu ?_
  obtain ⟨hm, ht, -⟩ := oldFanLeaves_frame sequencersOnly_frame n p (ev.plant.chan p).unit
    ((ev.setChan p ((ev.plant.chan p).reinitialised (env.store.point p))).mark p)
  exact hs _ _ hm ht (hs ev.plant _ rfl rfl h)

theorem completeWrite_modeSound (w : WriteTarget) {s : State} (h : s.ModeSound) : (completeWrite w s).ModeSound := by
  unfold completeWrite writeTakesEffect
  cases w with
  | point p field v =>
    refine State.runEvent_modeFit (s := { s with store := _, write := none }) ?_
    exact reinitialise_keeps (P := Plant.ModeFit s.alarms)
      (env := { store := (WriteTarget.point p field v).apply s.store, alarms := s.alarms })
      (fun _ _ u => u.keeps_modeFit) (fun _ _ hm ht k => k.congr hm ht) _ p (ev := .start s.plant) h
  | zone z field v => exact zonesFollow_modeSound (activityEvent_plant ..) h
  | scenario z p e => exact h
  | device field v =>
    dsimp only
    split
    · refine State.runEvent_modeFit (s := { s with store := _, write := none }) ?_
      show (Ev.newLimit v (.start s.plant)).plant.ModeFit s.alarms
      obtain ⟨hm, ht, -⟩ := newLimit_frame sequencersOnly_frame v (.start s.plant)
      exact Plant.ModeFit.congr h hm ht
    · exact h

theorem Act.keeps_modeSound {s t : State} (a : Act s t) (h : s.ModeSound) : t.ModeSound := by
  cases a with
  | count _ => exact Plant.ModeFit.congr h (State.countPasses_mode s) (State.countPasses_test s)
  | event _ hg => exact State.runEvent_modeFit (hg.keeps_modeFit h)
  | zoneLine z l _ _ _ => exact zonesFollow_modeSound (activityEvent_plant ..) h
  | list _ _ => exact zonesFollow_modeSound rfl h
  | isolate z _ _ => exact zonesFollow_modeSound rfl h
  | rejoin z _ _ => exact zonesFollow_modeSound rfl h
  | writeDone w _ _ => exact completeWrite_modeSound w.target h
  | _ => exact h

/-- The end of a device reset leaves the mode of the rebuilt list and no test (R49). -/
theorem deviceResetEnds_modeSound (s : State) : (deviceResetEnds s).ModeSound := by
  obtain ⟨ev, e, calm⟩ := deviceResetEnds_calm s
  show (deviceResetEnds s).plant.ModeFit (deviceResetEnds s).alarms
  rw [e]
  unfold Plant.ModeFit
  rw [calm.mode, calm.test]
  split <;> rename_i hl <;> simp [hl, TestRecord.afterReset]

theorem endWriteByReset_mode (s : State) : (endWriteByReset s).plant.mode = s.plant.mode := by
  unfold endWriteByReset; split <;> rfl

theorem endWriteByReset_test (s : State) : (endWriteByReset s).plant.test = s.plant.test := by
  unfold endWriteByReset; split <;> rfl

theorem deviceResetBegins_test (s : State) : (deviceResetBegins s).plant.test = s.plant.test := by
  rw [deviceResetBegins]
  exact endWriteByReset_test s

/-- Its beginning empties the list and leaves FIRE; a test goes on in TEST until its end. -/
theorem deviceResetBegins_modeSound {s : State} (h : s.ModeSound) : (deviceResetBegins s).ModeSound := by
  have mode : (deviceResetBegins s).plant.mode = if s.plant.mode = .fire then .normal else s.plant.mode := by
    rw [deviceResetBegins, ← endWriteByReset_mode s]
  refine ⟨⟨fun x => absurd x (deviceResetBegins_mode s), fun x => absurd rfl x⟩, ?_⟩
  rw [deviceResetBegins_test, mode, h.2]
  split
  · rename_i hm; simp [hm]
  · exact .rfl

/-- Settles O15: every act keeps the mode to the list and the test, for every update does (`Upd.keeps_modeFit`) and a
report sets the mode by the list (`listReport_modeFit`); so do the beginning and the end of a device reset. -/
theorem modeStaysSound : Obligations.ModeStaysSound := by
  intro s t h e
  exact step_keeps (P := fun s : State => s.ModeSound) (fun _ _ a k => a.keeps_modeSound k)
    (fun s _ => deviceResetEnds_modeSound s) (fun _ k => deviceResetBegins_modeSound k) h e

/-! ## The test record (R121) -/

/-- The results stand in ascending point order, from the first point of the range to below `k`, and the failed count is
theirs. -/
structure TestRecord.ResultsBelow (k : Nat) (t : TestRecord) : Prop where
  ascending : t.results.Pairwise fun a b => a.point.val < b.point.val
  range : ∀ e ∈ t.results, t.first ≤ e.point.val ∧ e.point.val < k
  failed : t.failed = (t.results.filter fun e => e.outcome.failed).length

theorem TestRecord.ResultsBelow.mono {k n : Nat} {t : TestRecord} (h : t.ResultsBelow k) (hk : k ≤ n) :
    t.ResultsBelow n :=
  ⟨h.ascending, fun e he => ⟨(h.range e he).1, Nat.lt_of_lt_of_le (h.range e he).2 hk⟩, h.failed⟩

/-- An entry of a point behind all of them. -/
theorem TestRecord.ResultsBelow.add {t : TestRecord} {p : Point} (h : t.ResultsBelow p.val) (hp : t.first ≤ p.val)
    (o : TestOutcome) : (t.add p o).ResultsBelow (p.val + 1) where
  ascending := by
    refine List.pairwise_append.mpr ⟨h.ascending, List.pairwise_singleton .., fun a ha b hb => ?_⟩
    rw [List.mem_singleton.mp hb]
    exact (h.range a ha).2
  range e he := by
    rcases List.mem_append.mp he with he | he
    · exact ⟨(h.range e he).1, Nat.lt_succ_of_lt (h.range e he).2⟩
    · rw [List.mem_singleton.mp he]
      exact ⟨hp, Nat.lt_succ_self _⟩
  failed := by
    show t.failed + _ = _
    rw [h.failed, TestRecord.add, List.filter_append, List.length_append]
    cases hf : o.failed <;> simp [hf]

/-- A test record as R121 gives it. -/
structure TestRecord.Sound (t : TestRecord) : Prop where
  results : t.ResultsBelow (t.first + t.count)
  running : t.state = .running →
    (∃ p, t.current = some p ∧ t.first ≤ p.val ∧ p.val < t.first + t.count ∧ t.ResultsBelow p.val) ∧
      t.step.isSome = true ∧ t.home.isSome = true
  stopped : t.state ≠ .running → t.step = none ∧ t.home = none

theorem testSound_iff (s : State) : s.TestSound ↔ s.plant.test.Sound := by
  refine ⟨fun ⟨ha, hr, hf, hrun, hstop⟩ => ⟨⟨ha, hr, hf⟩, fun x => ?_, hstop⟩,
    fun ⟨⟨ha, hr, hf⟩, hrun, hstop⟩ => ⟨ha, hr, hf, fun x => ?_, hstop⟩⟩ <;>
    obtain ⟨⟨p, hc, h1, h2, hb⟩, hs⟩ := hrun x
  · exact ⟨⟨p, hc, h1, h2, ha, fun e he => ⟨(hr e he).1, hb e he⟩, hf⟩, hs⟩
  · exact ⟨⟨p, hc, h1, h2, fun e he => (hb.range e he).2⟩, hs⟩

/-- A test that has ended. -/
theorem TestRecord.ResultsBelow.ended {t : TestRecord} (h : t.ResultsBelow (t.first + t.count)) {x : TestState}
    (hx : x ≠ .running) : ({ t.noStep with state := x } : TestRecord).Sound :=
  ⟨⟨h.ascending, h.range, h.failed⟩, fun y => absurd y hx, fun _ => ⟨rfl, rfl⟩⟩

/-- A running test goes over to another step at its point. -/
theorem TestRecord.Sound.withStep {t : TestRecord} (h : t.Sound) (hr : t.state = .running) (x : TestStep) :
    ({ t with step := some x } : TestRecord).Sound where
  results := ⟨h.results.ascending, h.results.range, h.results.failed⟩
  running _ := by
    obtain ⟨⟨p, hc, h1, h2, h3⟩, -, hh⟩ := h.running hr
    exact ⟨⟨p, hc, h1, h2, h3.ascending, h3.range, h3.failed⟩, rfl, hh⟩
  stopped x := absurd hr x

section TestUnit
variable {env : Env}

theorem testDone_testSound {ev : Ev} (h : ev.plant.test.ResultsBelow (ev.plant.test.first + ev.plant.test.count)) :
    (testDone env ev).plant.test.Sound := by
  unfold testDone
  rw [resolveAll_test]
  exact h.ended (by decide)

/-- The steps from a point on leave a sound record: the entries of the steps that end at once are in order, and the step
that begins is at a point behind them. -/
theorem beginSteps_testSound (n k : Nat) {ev : Ev} (hr : ev.plant.test.state = .running)
    (h : ev.plant.test.ResultsBelow k) (hk : ev.plant.test.first ≤ k)
    (hn : k + n = ev.plant.test.first + ev.plant.test.count) : (beginSteps env n k ev).plant.test.Sound := by
  induction n generalizing k ev with
  | zero => exact testDone_testSound (h.mono (Nat.le_of_eq hn))
  | succ n ih =>
    unfold beginSteps
    split
    · rename_i hlt
      have at_ {t : TestRecord} (ht : t = { ev.plant.test with current := some ⟨k, hlt⟩ }) (x : TestStep) (a : Action) :
          ({ t with step := some x, home := some a } : TestRecord).Sound := by
        subst ht
        have hb := h.mono (n := ev.plant.test.first + ev.plant.test.count) (by omega)
        refine ⟨⟨hb.ascending, hb.range, hb.failed⟩,
          fun _ => ⟨⟨⟨k, hlt⟩, rfl, hk, ?_, h.ascending, h.range, h.failed⟩, rfl, rfl⟩, fun y => absurd hr y⟩
        show k < ev.plant.test.first + ev.plant.test.count
        omega
      have next : k + 1 + n = ev.plant.test.first + ev.plant.test.count := by omega
      dsimp only
      split
      · have hb := h.mono (Nat.le_succ k)
        exact ih (k + 1) hr ⟨hb.ascending, hb.range, hb.failed⟩ (Nat.le_succ_of_le hk) next
      · refine ih (k + 1) hr ?_ (Nat.le_succ_of_le hk) next
        exact TestRecord.ResultsBelow.add (t := { ev.plant.test with current := some ⟨k, hlt⟩ }) (p := ⟨k, hlt⟩)
          ⟨h.ascending, h.range, h.failed⟩ hk _
      · rw [setTestDemand_test]; exact at_ rfl _ _
      · rw [setTestDemand_test]; exact at_ rfl _ _
    · exact testDone_testSound (h.mono (by omega))

/-- A step that ends leaves a sound record. -/
theorem endStep_testSound {p : Point} (o : TestOutcome) {ev : Ev} (h : ev.plant.test.Sound)
    (hr : ev.plant.test.state = .running) (hc : ev.plant.test.current = some p) :
    (endStep env p o ev).plant.test.Sound := by
  obtain ⟨⟨q, hq, h1, h2, h3⟩, -⟩ := h.running hr
  obtain rfl : p = q := Option.some.inj (hc.symm.trans hq)
  have k := h3.add h1 o
  have e : (setTestDemand env p none (ev.withTest fun t => (t.add p o).noStep)).plant.test =
      (ev.plant.test.add p o).noStep := setTestDemand_test ..
  unfold endStep
  refine beginSteps_testSound _ _ (by rw [e]; exact hr) ?_ ?_ ?_ <;> rw [e]
  · exact ⟨k.ascending, k.range, k.failed⟩
  · exact Nat.le_succ_of_le h1
  · show p.val + 1 + (ev.plant.test.first + ev.plant.test.count - (p.val + 1)) = ev.plant.test.first + ev.plant.test.count
    omega

section Reports
variable {ev : Ev} (h : ev.plant.test.Sound)
include h

theorem takeDamperReport_testSound {p : Point} (hr : ev.plant.test.state = .running)
    (hc : ev.plant.test.current = some p) (pos : Option DamperPos) (x : DamperFault) :
    (takeDamperReport env p pos x ev).plant.test.Sound := by
  unfold takeDamperReport
  split
  · split
    · exact endStep_testSound _ h hr hc
    · split
      · rw [setTestDemand_test]; exact h.withStep hr .damperBack
      · exact h
  · split
    · exact endStep_testSound _ h hr hc
    · split
      · exact endStep_testSound _ h hr hc
      · exact h
  · exact h

theorem takeFanReport_testSound {p : Point} (hr : ev.plant.test.state = .running)
    (hc : ev.plant.test.current = some p) (st : FanState) (x : FanFault) :
    (takeFanReport env p st x ev).plant.test.Sound := by
  unfold takeFanReport
  split
  · split
    · rw [setTestDemand_test]; exact h.withStep hr .fanStop
    · exact endStep_testSound _ h hr hc
    · exact h
  · split
    · exact endStep_testSound _ h hr hc
    · exact h
  · exact h

theorem takeJoinReport_testSound (r : JoinReport) : (takeJoinReport env r ev).plant.test.Sound := by
  unfold takeJoinReport
  split
  · rename_i hu
    split
    · exact endStep_testSound _ h hu.1 hu.2.1
    · exact endStep_testSound _ h hu.1 hu.2.1
    · exact h
  · exact h

theorem takeReport_testSound (r : Report) : (takeReport env ev r).plant.test.Sound := by
  have under {p : Point} {x : Ev} (hu : x.underTest p = true) :
      x.plant.test.state = .running ∧ x.plant.test.current = some p := of_decide_eq_true hu
  have restore : (checkRestore env ev).plant.test = ev.plant.test := by
    unfold checkRestore
    split
    · rw [resolveAll_test]; rfl
    · rfl
  cases r with
  | damper p pos x =>
    simp only [takeReport]
    split
    · rename_i hu; exact takeDamperReport_testSound h (under hu).1 (under hu).2 pos x
    · exact h
  | fan p st x =>
    have k : (checkRestore env ev).plant.test.Sound := restore ▸ h
    simp only [takeReport]
    split
    · rename_i hu; exact takeFanReport_testSound k (under hu).1 (under hu).2 st x
    · exact k
  | override p =>
    simp only [takeReport]
    split
    · rename_i hu
      rw [Bool.and_eq_true] at hu
      exact endStep_testSound _ h (under hu.1).1 (under hu.1).2
    · exact h
  | restoreCheck => exact restore ▸ h

end Reports

theorem settle_testSound (n : Nat) {ev : Ev} (h : ev.plant.test.Sound) : (settle env n ev).plant.test.Sound := by
  have reports (l : List Report) : ∀ ev : Ev, ev.plant.test.Sound → (l.foldl (takeReport env) ev).plant.test.Sound := by
    induction l with
    | nil => exact fun _ h => h
    | cons r rs ih => exact fun ev h => ih _ (takeReport_testSound h r)
  induction n generalizing ev with
  | zero => exact h
  | succ n ih =>
    unfold settle
    split
    · exact h
    · exact ih (reports _ { ev with reports := [] } h)

theorem settleAll_testSound {ev : Ev} (h : ev.plant.test.Sound) : (settleAll env ev).plant.test.Sound :=
  settle_testSound _ h

/-- The evaluation leaves the test record. -/
theorem finishEvent_testSound {ev : Ev} (h : ev.plant.test.Sound) : (finishEvent env ev).plant.test.Sound := by
  have k := settleAll_testSound (env := env) h
  unfold finishEvent
  dsimp only
  split
  · have e : (evaluate env (settleAll env ev)).plant.test = (settleAll env ev).plant.test :=
      (evaluate_frame sequencersOnly_frame env _).2.1
    show (evaluate env (settleAll env ev)).plant.test.Sound
    rw [e]
    exact k
  · exact k

/-- A test aborted at its point (R133, R134). -/
theorem abortTest_testSound {ev : Ev} (h : ev.plant.test.Sound) (hr : ev.plant.test.state = .running) :
    (abortTest ev).plant.test.Sound := by
  obtain ⟨⟨p, hc, h1, h2, h3⟩, -⟩ := h.running hr
  unfold abortTest
  rw [hc]
  exact TestRecord.ResultsBelow.ended (t := ev.plant.test.add p .aborted)
    ((h3.add h1 .aborted).mono (show p.val + 1 ≤ ev.plant.test.first + ev.plant.test.count by omega)) (by decide)

end TestUnit

theorem ResolverEvent.keeps_testSound {s : State} {g : Env → Ev → Ev} (e : ResolverEvent s g)
    (h : s.plant.test.Sound) : (g s.env (.start s.plant)).plant.test.Sound := by
  cases e with
  | joining =>
    unfold joiningReportTaken
    split
    · exact h
    · exact takeJoinReport_testSound (by exact h) _
  | override p v _ => rw [resolvePoint_test]; exact h
  | allAuto =>
    obtain ⟨v, e⟩ := setOverrides_eq (allPoints.filter fun p => (s.plant.chan p).override != .auto) (.start s.plant)
    have released (l : List Point) : ∀ ev : Ev, ev.plant.test.Sound →
        (l.foldl (resolveReleased s.env) ev).plant.test.Sound := by
      induction l with
      | nil => exact fun _ h => h
      | cons p ps ih => exact fun ev h => ih _ (settleAll_testSound (by rw [resolvePoint_test]; exact h))
    unfold allOverridesAuto
    dsimp only [Ev.start_plant]
    rw [e]
    exact released _ _ h
  | setNormal p a _ =>
    unfold Machine.setNormal
    dsimp only
    split
    · rw [resolvePoint_test]; exact h
    · exact h
  | beginTest first count hm _ _ =>
    unfold Machine.beginTest
    have e (ev : Ev) (t : TestRecord) :
        (resolveAll s.env false ((ev.withTest fun _ => t).setMode .test)).plant.test = t := by rw [resolveAll_test]; rfl
    refine beginSteps_testSound _ _ ?_ ?_ ?_ ?_ <;> rw [e]
    exact ⟨.nil, fun _ he => absurd he List.not_mem_nil, rfl⟩
  | haltTest hr =>
    unfold Machine.haltTest
    rw [resolveAll_test]
    exact abortTest_testSound (ev := .start s.plant) h hr
  | commission hm => rw [resolveAll_test]; exact h
  | decommission hm => rw [resolveAll_test]; exact h

theorem PlantEvent.keeps_testSound {s : State} {g : Env → Ev → Ev} (e : PlantEvent s g) (h : s.plant.test.Sound) :
    (g s.env (.start s.plant)).plant.test.Sound := by
  rcases e.cases_line with k | k
  · rw [(k _ linesOnly_frame).test]; exact h
  · exact k.keeps_testSound h

/-- A report of the list leaves the record, or aborts the test. -/
theorem listReport_testSound {env : Env} {ev : Ev} (h : ev.plant.test.Sound)
    (hr : ev.plant.mode = .test → ev.plant.test.state = .running) : (listReport env ev).plant.test.Sound := by
  have k : (if ev.plant.mode = .test ∧ modeAfterReport ev.plant.mode env.alarms.isEmpty = .fire then abortTest ev
      else ev).plant.test.Sound := by
    split
    · rename_i hm; exact abortTest_testSound h (hr hm.1)
    · exact h
  unfold listReport
  dsimp only
  split
  · rw [Ev.report_plant, resolveAll_test]; exact k
  · rw [resolveAll_test]; exact k

theorem zonesFollow_testSound {s u : State} (hp : u.plant = s.plant) (hm : s.ModeSound) (h : s.plant.test.Sound) :
    (zonesFollow s u).plant.test.Sound := by
  by_cases e : s.alarms = u.alarms
  · rw [zonesFollow_of_list_eq e]
    show u.plant.test.Sound
    rw [hp]
    exact h
  · rw [zonesFollow_of_list_ne e, State.runEvent_plant]
    refine finishEvent_testSound (listReport_testSound (ev := .start u.plant) ?_ ?_) <;> rw [hp]
    · exact h
    · exact hm.2.mpr

theorem reinitialise_test (n : Nat) (p : Point) (env : Env) (ev : Ev) :
    (reinitialise n p env ev).plant.test = ev.plant.test := by
  rw [reinitialise_plant, resolvePoint_test, recordReplaced_test]

theorem completeWrite_testSound (w : WriteTarget) {s : State} (hm : s.ModeSound) (h : s.plant.test.Sound) :
    (completeWrite w s).plant.test.Sound := by
  unfold completeWrite writeTakesEffect
  cases w with
  | point p field v =>
    dsimp only
    rw [State.runEvent_plant]
    exact finishEvent_testSound (by rw [reinitialise_test]; exact h)
  | zone z field v => exact zonesFollow_testSound (activityEvent_plant ..) hm h
  | scenario z p e => exact h
  | device field v =>
    dsimp only
    split
    · rw [State.runEvent_plant]
      obtain ⟨-, ht, -⟩ := newLimit_frame sequencersOnly_frame v (.start s.plant)
      exact finishEvent_testSound (by rw [ht]; exact h)
    · exact h

theorem Act.keeps_testSound {s t : State} (a : Act s t) (hm : s.ModeSound) (h : s.plant.test.Sound) :
    t.plant.test.Sound := by
  cases a with
  | count _ => rw [State.countPasses_test]; exact h
  | event _ hg => rw [State.runEvent_plant]; exact finishEvent_testSound (hg.keeps_testSound h)
  | zoneLine z l _ _ _ => exact zonesFollow_testSound (activityEvent_plant ..) hm h
  | list _ _ => exact zonesFollow_testSound rfl hm h
  | isolate z _ _ => exact zonesFollow_testSound rfl hm h
  | rejoin z _ _ => exact zonesFollow_testSound rfl hm h
  | writeDone w _ _ => exact completeWrite_testSound w.target hm h
  | _ => exact h

theorem TestRecord.afterReset_sound : TestRecord.afterReset.Sound :=
  ⟨⟨.nil, fun _ he => absurd he List.not_mem_nil, rfl⟩, fun x => absurd x (by decide), fun _ => ⟨rfl, rfl⟩⟩

/-- Settles O41: an entry is added of the point under test alone, which stands behind every entry before it
(`endStep_testSound`, `beginSteps_testSound`), and a test ends with its step (`TestRecord.ResultsBelow.ended`). -/
theorem testRecordStaysSound : Obligations.TestRecordStaysSound := by
  intro s t h e
  rw [testSound_iff] at h ⊢
  refine step_keeps (P := fun s : State => s.ModeSound ∧ s.plant.test.Sound)
    (fun _ _ a k => ⟨a.keeps_modeSound k.1, a.keeps_testSound k.1 k.2⟩)
    (fun s _ => ⟨deviceResetEnds_modeSound s, ?_⟩)
    (fun s k => ⟨deviceResetBegins_modeSound k.1, by rw [deviceResetBegins_test]; exact k.2⟩) h e
  obtain ⟨ev, e, calm⟩ := deviceResetEnds_calm s
  rw [e, calm.test]
  exact TestRecord.afterReset_sound

end Sys2Proof.Machine
end

section
/-! SUPPORT. What a resolution makes of the resolver's side of a channel: of the point resolved the demand of R35 and, in
FIRE, the last fire demand, and of every other point nothing (`resolvePoint_resolverSide`, `resolveAll_resolverSide`). -/

namespace Sys2Proof.Machine

/-! ## The resolver's side of a channel -/

/-- A channel without its sequencer record and its CMD: the lines, the entries and the demands. -/
def Channel.resolverSide (ch : Channel) : Channel := { ch with unit := .unused, cmd := false }

theorem Plant.SequencersOnly.resolverSide {a b : Plant} (h : a.SequencersOnly b) (q : Point) :
    (b.chan q).resolverSide = (a.chan q).resolverSide := by
  obtain ⟨-, -, -, -, -, h⟩ := h
  rw [h q]; rfl

section Resolved
variable (env : Env) (m : Mode) (p : Point) (ch : Channel)

/-- A resolution does not read the record or the CMD. -/
theorem Channel.resolverSide_resolvedAt :
    (ch.resolvedAt env m p).resolverSide = ch.resolverSide.resolvedAt env m p := by
  unfold Channel.resolvedAt Channel.fireStored; split <;> rfl

theorem Channel.resolverSide_fireStored :
    (ch.fireStored env m p).resolverSide = ch.resolverSide.fireStored env m p := by
  unfold Channel.fireStored; split <;> rfl

/-- A second storing, and a second resolution, change nothing. -/
theorem Channel.fireStored_fireStored : (ch.fireStored env m p).fireStored env m p = ch.fireStored env m p := by
  unfold Channel.fireStored; split <;> rfl

theorem Channel.resolvedAt_fireStored : (ch.fireStored env m p).resolvedAt env m p = ch.resolvedAt env m p := by
  rw [Channel.resolvedAt, Channel.fireStored_fireStored, Channel.resolvedAt]

theorem Channel.resolvedAt_resolvedAt : (ch.resolvedAt env m p).resolvedAt env m p = ch.resolvedAt env m p := by
  unfold Channel.resolvedAt Channel.fireStored; split <;> rfl

/-- A resolved channel holds the demand of R35. -/
theorem Channel.resolvedAt_resolved :
    (ch.resolvedAt env m p).resolved = some (resolution env m p (ch.resolvedAt env m p)) := by
  rw [Channel.resolvedAt]
  exact congrArg some (resolution_congr env m p rfl rfl rfl rfl)

/-- A channel that holds the demand already. -/
theorem Channel.resolvedAt_of_held (h : ch.resolved = some (resolution env m p (ch.fireStored env m p))) :
    ch.resolvedAt env m p = ch.fireStored env m p := by
  unfold Channel.resolvedAt
  rw [← h]
  unfold Channel.fireStored
  split <;> rfl

theorem Channel.fireStored_resolved : (ch.fireStored env m p).resolved = ch.resolved := by
  unfold Channel.fireStored; split <;> rfl

end Resolved

/-! ## One point resolved -/

/-- A resolution that is not forced is a forced one, unless the point holds the demand already. -/
theorem resolvePoint_unforced {env : Env} {p : Point} (hk : env.store.kind p ≠ .unused) (ev : Ev) :
    resolvePoint env false ev p =
      if (ev.plant.chan p).resolved =
          some (resolution env ev.plant.mode p ((ev.plant.chan p).fireStored env ev.plant.mode p)) then
        storeLastFire env p ev
      else resolvePoint env true ev p := by
  have hm : (storeLastFire env p ev).plant.mode = ev.plant.mode := by rw [storeLastFire_plant]; rfl
  have hc : (storeLastFire env p ev).plant.chan p = (ev.plant.chan p).fireStored env ev.plant.mode p := by
    rw [storeLastFire_plant, Plant.chan_setChan_self]
  unfold resolvePoint
  rw [if_neg hk, if_neg hk]
  dsimp only
  rw [hm, hc, Channel.fireStored_resolved]
  simp only [Bool.false_eq_true, false_or, ne_eq, ite_not, true_or, if_true]

/-- Besides the demand stored, a resolution of a FAN or DAMPER point is the sequencers'. -/
theorem resolvePoint_sequencersOnly {env : Env} {p : Point} (hk : env.store.kind p ≠ .unused) (b : Bool) (ev : Ev) :
    (ev.plant.setChan p ((ev.plant.chan p).resolvedAt env ev.plant.mode p)).SequencersOnly
      (resolvePoint env b ev p).plant := by
  have forced : (ev.plant.setChan p ((ev.plant.chan p).resolvedAt env ev.plant.mode p)).SequencersOnly
      (resolvePoint env true ev p).plant := by
    obtain ⟨e, he, hz⟩ := resolvePoint_forced hk ev
    rw [hz, ← he]
    exact handDemand_frame sequencersOnly_frame env p _ e
  cases b with
  | true => exact forced
  | false =>
    rw [resolvePoint_unforced hk]
    split
    · rename_i h
      rw [storeLastFire_plant, Channel.resolvedAt_of_held env _ p _ h]
      exact sequencersOnly_frame.refl _
    · exact forced

/-- The resolver's side after a resolution of one point. -/
theorem resolvePoint_resolverSide {env : Env} {p : Point} (hk : env.store.kind p ≠ .unused) (b : Bool) (ev : Ev)
    (q : Point) :
    ((resolvePoint env b ev p).plant.chan q).resolverSide =
      if q = p then (ev.plant.chan p).resolverSide.resolvedAt env ev.plant.mode p
      else (ev.plant.chan q).resolverSide := by
  rw [(resolvePoint_sequencersOnly hk b ev).resolverSide q, Plant.chan_setChan]
  split
  · exact Channel.resolverSide_resolvedAt ..
  · rfl

/-- The resolution of an UNUSED point leaves it without a demand. -/
theorem resolvePoint_unused {env : Env} {p : Point} (hk : env.store.kind p = .unused) (b : Bool) (ev : Ev) :
    resolvePoint env b ev p = ev.setChan p { ev.plant.chan p with resolved := none } := by
  rw [resolvePoint, if_pos hk]

theorem resolvePoint_mode (env : Env) (b : Bool) (ev : Ev) (p : Point) :
    (resolvePoint env b ev p).plant.mode = ev.plant.mode := by
  by_cases hk : env.store.kind p = .unused
  · rw [resolvePoint_unused hk]; rfl
  · exact (resolvePoint_sequencersOnly hk b ev).1

/-! ## Every point resolved -/

theorem resolveInOrder_mode (env : Env) (b : Bool) (l : List Point) (ev : Ev) :
    (resolveInOrder env b l ev).plant.mode = ev.plant.mode := by
  unfold resolveInOrder
  induction l generalizing ev with
  | nil => rfl
  | cons p ps ih => rw [List.foldl_cons, ih, resolvePoint_mode]

theorem resolveInOrder_resolverSide {env : Env} {l : List Point} (hl : ∀ p ∈ l, env.store.kind p ≠ .unused) (b : Bool)
    (ev : Ev) (q : Point) :
    ((resolveInOrder env b l ev).plant.chan q).resolverSide =
      if q ∈ l then (ev.plant.chan q).resolverSide.resolvedAt env ev.plant.mode q
      else (ev.plant.chan q).resolverSide := by
  unfold resolveInOrder
  induction l generalizing ev with
  | nil => simp
  | cons p ps ih =>
    rw [List.foldl_cons, ih (fun q hq => hl q (List.mem_cons_of_mem _ hq)),
      resolvePoint_resolverSide (hl p List.mem_cons_self), resolvePoint_mode]
    by_cases e : q = p
    · subst e
      simp [Channel.resolvedAt_resolvedAt]
    · simp [e]

theorem storeAllLastFire_mode (env : Env) (ev : Ev) : (storeAllLastFire env ev).plant.mode = ev.plant.mode := by
  unfold storeAllLastFire
  induction allPoints generalizing ev with
  | nil => rfl
  | cons p ps ih =>
    rw [List.foldl_cons, ih]
    split
    · rfl
    · rw [storeLastFire_plant]; rfl

theorem storeAllLastFire_chan (env : Env) (ev : Ev) (q : Point) :
    (storeAllLastFire env ev).plant.chan q =
      if env.store.kind q = .unused then ev.plant.chan q else (ev.plant.chan q).fireStored env ev.plant.mode q := by
  have key (l : List Point) (ev : Ev) :
      (l.foldl (fun ev p => if env.store.kind p = .unused then ev else storeLastFire env p ev) ev).plant.chan q =
        if q ∈ l ∧ env.store.kind q ≠ .unused then (ev.plant.chan q).fireStored env ev.plant.mode q
        else ev.plant.chan q := by
    induction l generalizing ev with
    | nil => simp
    | cons p ps ih =>
      rw [List.foldl_cons, ih]
      by_cases hp : env.store.kind p = .unused
      · have : q ∈ p :: ps ∧ env.store.kind q ≠ .unused ↔ q ∈ ps ∧ env.store.kind q ≠ .unused := by
          rw [List.mem_cons]
          exact ⟨fun h => ⟨h.1.resolve_left (by rintro rfl; exact h.2 hp), h.2⟩, fun h => ⟨.inr h.1, h.2⟩⟩
        simp only [hp, if_true, this]
      · rw [if_neg hp, storeLastFire_plant, Plant.chan_setChan]
        by_cases e : q = p
        · subst e; simp [hp, Channel.fireStored_fireStored]
        · simp [e]
  unfold storeAllLastFire
  rw [key]
  simp [allPoints]

theorem mem_pointsToHand {env : Env} {b : Bool} {ev : Ev} {p : Point} :
    p ∈ pointsToHand env b ev ↔ env.store.kind p ≠ .unused ∧
      (b = true ∨ (ev.plant.chan p).resolved ≠ some (resolution env ev.plant.mode p (ev.plant.chan p))) := by
  simp [pointsToHand, allPoints]

theorem resolveAll_mode (env : Env) (b : Bool) (ev : Ev) : (resolveAll env b ev).plant.mode = ev.plant.mode := by
  unfold resolveAll
  dsimp only
  rw [resolveInOrder_mode, Ev.draw_mode, storeAllLastFire_mode]

/-- The resolver's side after a resolution of every point: each FAN and DAMPER point holds the demand of R35. -/
theorem resolveAll_resolverSide (env : Env) (b : Bool) (ev : Ev) (q : Point) :
    ((resolveAll env b ev).plant.chan q).resolverSide =
      if env.store.kind q = .unused then (ev.plant.chan q).resolverSide
      else (ev.plant.chan q).resolverSide.resolvedAt env ev.plant.mode q := by
  let l := inFreeOrder (storeAllLastFire env ev).plant.draws (pointsToHand env b (storeAllLastFire env ev))
  have mem (p : Point) : p ∈ l ↔ p ∈ pointsToHand env b (storeAllLastFire env ev) := (inFreeOrder_perm _ _).mem_iff
  have used : ∀ p ∈ l, env.store.kind p ≠ .unused := fun p hp => (mem_pointsToHand.mp ((mem p).mp hp)).1
  have h := resolveInOrder_resolverSide used b (storeAllLastFire env ev).draw q
  refine h.trans ?_
  simp only [mem, mem_pointsToHand, Ev.draw_chan, Ev.draw_mode, storeAllLastFire_mode, storeAllLastFire_chan]
  by_cases hk : env.store.kind q = .unused
  · simp [hk]
  · simp only [hk, if_false]
    rw [Channel.resolverSide_fireStored, Channel.resolvedAt_fireStored, Channel.fireStored_resolved]
    split
    · rfl
    · rename_i hn
      have held : (ev.plant.chan q).resolved =
          some (resolution env ev.plant.mode q ((ev.plant.chan q).fireStored env ev.plant.mode q)) := by
        by_contra hne
        exact hn ⟨hk, .inr hne⟩
      rw [← Channel.resolverSide_fireStored, ← Channel.resolverSide_resolvedAt,
        Channel.resolvedAt_of_held env _ q _ held]

end Sys2Proof.Machine
end

section
/-! SUPPORT and the statement about the overrides. A law of the plant under its store is kept by every step if it is kept
by what the steps are made of (`PlantLaw.step_keeps`); the kinds of the records are such a law (`kindsFit_law`), and so
is the law of the overrides (`overridesFit_law`). -/

namespace Sys2Proof.Machine

/-! ## Laws of the plant under its store -/

/-- What keeps a law of the plant: the events of the plant and of the list, the effects of a completed write, a count;
and the end of a device reset brings it about. -/
structure PlantLaw (P : Store → Plant → Prop) : Prop where
  draws : ∀ {st pl} (n : Nat), P st pl → P st { pl with draws := n }
  sameKinds : ∀ {st st' pl}, (∀ p, st'.point p = st.point p) → P st pl → P st' pl
  count : ∀ s : State, P s.store s.plant → P s.store s.countPasses.plant
  event : ∀ (s : State) (g : Env → Ev → Ev), PlantEvent s g → P s.store s.plant → P s.store (s.runEvent g).plant
  report : ∀ s : State, P s.store s.plant → P s.store (s.runEvent listReport).plant
  limit : ∀ (s : State) (v : Nat), P s.store s.plant → P s.store (s.runEvent fun _ ev => ev.newLimit v).plant
  reinit : ∀ (s : State) (st : Store) (n : Nat) (p : Point), st.SameBut p s.store → P st s.plant →
    P s.store (s.runEvent (reinitialise n p)).plant
  ends : ∀ s : State, P (deviceResetEnds s).store (deviceResetEnds s).plant

section Laws
variable {P : Store → Plant → Prop} (L : PlantLaw P)
include L

theorem PlantLaw.zonesFollow_keeps {s t : State} (h : P t.store t.plant) : P t.store (zonesFollow s t).plant := by
  by_cases e : s.alarms = t.alarms
  · rw [zonesFollow_of_list_eq e]; exact h
  · rw [zonesFollow_of_list_ne e]
    exact L.report { t with ports := _ } h

theorem PlantLaw.completeWrite_keeps {s : State} (w : WriteTarget) (h : P s.store s.plant) :
    P (w.apply s.store) (completeWrite w s).plant := by
  have same (hw : ∀ p field v, w ≠ .point p field v) : P (w.apply s.store) s.plant :=
    L.sameKinds (fun q => WriteTarget.apply_point_ne fun p field v e => absurd e (hw p field v)) h
  unfold completeWrite writeTakesEffect
  cases w with
  | point p field v =>
    refine L.reinit (s.storeWritten (.point p field v)) s.store _ p (fun q hq => ?_) h
    exact WriteTarget.apply_point_ne fun p' _ _ e => by cases e; exact hq
  | zone z field v =>
    let t := activityEvent (s.active z) z (s.storeWritten (.zone z field v))
    have hs : t.store = (WriteTarget.zone z field v).apply s.store := activityEvent_store ..
    have hp : t.plant = s.plant := activityEvent_plant ..
    have k : P t.store t.plant := by rw [hs, hp]; exact same (by simp)
    have r := L.zonesFollow_keeps (s := s) k
    rwa [hs] at r
  | scenario z p e => exact same (by simp)
  | device field v =>
    dsimp only
    split
    · exact L.limit (s.storeWritten (.device field v)) v (same (by simp))
    · exact same (by simp)

/-- Every act out of device reset keeps a law of the plant. -/
theorem PlantLaw.act_keeps {s t : State} (a : Act s t) (h : s.held = false → P s.store s.plant) :
    t.held = false → P t.store t.plant := by
  intro ht
  have hs : s.held = false := a.held_eq ▸ ht
  have k := h hs
  have follows {u : State} (hs : u.store = s.store) (hp : u.plant = s.plant) :
      P (zonesFollow s u).store (zonesFollow s u).plant := by
    rw [zonesFollow_store]
    exact L.zonesFollow_keeps (by rw [hs, hp]; exact k)
  have not {Q : Prop} (x : s.held = true) : Q := absurd (x.symm.trans hs) (by simp)
  cases a with
  | pending _ => exact k
  | ports _ => exact k
  | draws n => exact L.draws n k
  | count _ => rw [State.countPasses_store]; exact L.count s k
  | event _ hg => exact L.event s _ hg k
  | zoneLine z l _ _ _ => exact follows (activityEvent_store ..) (activityEvent_plant ..)
  | list _ _ => exact follows rfl rfl
  | isolate z _ _ => exact follows rfl rfl
  | rejoin z _ _ => exact follows rfl rfl
  | write _ _ _ => exact k
  | writeDone w _ _ => rw [completeWrite_store]; exact L.completeWrite_keeps w.target k
  | heldZone _ _ x => exact not x
  | heldFeedback _ _ _ x => exact not x
  | heldSupfail _ x => exact not x

theorem PlantLaw.step_keeps {s t : State} (h : s.held = false → P s.store s.plant) (e : step s = .next t) :
    t.held = false → P t.store t.plant :=
  Machine.step_keeps (P := fun s => s.held = false → P s.store s.plant) (fun _ _ a k => L.act_keeps a k)
    (fun s _ _ => L.ends s)
    (fun s _ x => absurd ((deviceResetBegins_held s).symm.trans x) (by simp)) h e

end Laws

/-! ## What reaches the resolver -/

/-- Of the events that reach the resolver, what every update of an event keeps and what the mode, the test record, the
override entries, the normal-demand entries and the demands do not touch is kept. -/
theorem ResolverEvent.keeps {P : Plant → Prop} {s : State} {g : Env → Ev → Ev} (e : ResolverEvent s g)
    (hu : ∀ a b, Upd s.env False a b → P a.plant → P b.plant)
    (hs : ∀ a b : Plant, a.UnitsKept b → P a → P b) (h : P s.plant) : P (g s.env (.start s.plant)).plant := by
  have chain {a b : Ev} (k : s.plant.UnitsKept a.plant) (m : Moves s.env False a b) : P b.plant :=
    m.keeps (P := fun x => P x.plant) hu (hs _ _ k h)
  have same {pl : Plant} (hc : pl.chans = s.plant.chans) (hq : pl.sched = s.plant.sched)
      (hy : pl.supply = s.plant.supply) : s.plant.UnitsKept pl :=
    ⟨fun q => by simp [Plant.chan, hc], hq, hy⟩
  cases e with
  | joining =>
    unfold joiningReportTaken
    split
    · exact h
    · exact chain (same rfl rfl rfl) (takeJoinReport_moves s.env False _ _)
  | override p v _ =>
    have k : s.plant.UnitsKept (s.plant.setChan p { s.plant.chan p with override := v }) :=
      Plant.unitsKept_setChan rfl rfl
    exact chain k (resolvePoint_moves s.env False false (setOverride p v (.start s.plant)) p)
  | allAuto =>
    exact chain (setOverrides_unitsKept _ (.start s.plant))
      ((draw_moves s.env False _).trans (foldl_moves _ (resolveReleased_moves s.env False) _ _))
  | setNormal p a _ =>
    have k : s.plant.UnitsKept (s.plant.setChan p { s.plant.chan p with normal := a }) :=
      Plant.unitsKept_setChan rfl rfl
    unfold Machine.setNormal
    dsimp only
    split
    · exact chain k (resolvePoint_moves s.env False false _ p)
    · exact hs _ _ k h
  | beginTest first count _ _ _ =>
    unfold Machine.beginTest
    refine chain (same rfl rfl rfl) ((resolveAll_moves s.env False false _).trans
      (beginSteps_moves s.env False ?_ count first))
    rw [resolveAll_test]; rfl
  | haltTest _ =>
    have k : s.plant.UnitsKept ((abortTest (.start s.plant)).setMode .normal).plant :=
      (abortTest_unitsKept (.start s.plant)).trans ⟨fun _ => ⟨rfl, rfl⟩, rfl, rfl⟩
    exact chain k (resolveAll_moves s.env False false _)
  | commission _ => exact chain (same rfl rfl rfl) (resolveAll_moves s.env False false _)
  | decommission _ => exact chain (same rfl rfl rfl) (resolveAll_moves s.env False false _)

/-! ## The kinds of the records -/

/-- Every point has the record of its stored kind. -/
def Plant.KindsFit (st : Store) (pl : Plant) : Prop := ∀ p, (pl.chan p).unit.kind = st.kind p

theorem Plant.KindsFit.congr {st : Store} {a b : Plant} (h : a.KindsFit st)
    (k : ∀ p, (b.chan p).unit.kind = (a.chan p).unit.kind) : b.KindsFit st := fun p => (k p).trans (h p)

theorem Plant.UnitsKept.kinds {a b : Plant} (h : a.UnitsKept b) (p : Point) :
    (b.chan p).unit.kind = (a.chan p).unit.kind := by rw [(h.1 p).1]

theorem Upd.kinds {env : Env} {Q : Prop} {a b : Ev} (u : Upd env Q a b) (p : Point) :
    (b.plant.chan p).unit.kind = (a.plant.chan p).unit.kind := by
  cases u with
  | seq u => exact u.frame kinds_frame.toSeqFrame p
  | res u => exact u.unitsKept.kinds p

theorem Channel.tick_kind (c : Channel) : c.tick.unit.kind = c.unit.kind := by
  unfold Channel.tick
  cases c.unit <;> rfl

theorem reinitialise_kinds {env : Env} {st : Store} {n : Nat} {p : Point} {ev : Ev} (hst : st.SameBut p env.store)
    (h : ev.plant.KindsFit st) : (reinitialise n p env ev).plant.KindsFit env.store := by
  refine (reinitialise_moves n p env False ev).keeps (P := fun x => x.plant.KindsFit env.store)
    (fun _ _ u k => k.congr u.kinds) fun q => ?_
  rw [oldFanLeaves_reinitialised_chan]
  split
  · rename_i e; subst e; exact Equipment.afterReset_kind ..
  · rename_i hq
    rw [h q, Store.kind, Store.kind, hst q hq]

theorem kindsFit_law : PlantLaw fun st pl => pl.KindsFit st where
  draws _ h := h
  sameKinds e h p := by rw [h p, Store.kind, Store.kind, e p]
  count s h := h.congr fun p => by rw [State.countPasses_chan]; exact Channel.tick_kind _
  event s g e h := by
    refine State.runEvent_keeps (P := fun pl => pl.KindsFit s.store) (fun _ _ u k => k.congr u.kinds) ?_
    rcases e.cases_line with k | k
    · exact h.congr (k _ linesOnly_frame).kinds
    · exact k.keeps (P := fun pl => pl.KindsFit s.store) (fun _ _ u k => k.congr u.kinds) (fun _ _ k x => x.congr k.kinds) h
  report s h := h.congr (runEvent_frame kinds_frame listReport s (listReport_frame kinds_frame _ _))
  limit s v h :=
    h.congr (runEvent_frame kinds_frame _ s (newLimit_frame kinds_frame.toSeqFrame v (.start s.plant)))
  reinit s st n p hst h :=
    State.runEvent_keeps (P := fun pl => pl.KindsFit s.store) (fun _ _ u k => k.congr u.kinds)
      (reinitialise_kinds (env := s.env) (ev := .start s.plant) hst h)
  ends s := (deviceResetEnds_runsDown s).kinds

/-! ## The law of the overrides (R22, R29, R32) -/

/-- The channel of a point is fit: the source of its demand is OVERRIDE exactly under an ON or OFF entry, and an UNUSED
point has no demand. -/
def Channel.OverrideFit (k : Kind) (c : Channel) : Prop :=
  (k = .unused → c.resolved = none) ∧ (c.resolved.map Demand.source = some .override ↔ c.override ≠ .auto)

/-- Every point outside `X`, whose resolution is still to come, is fit, and the entry of an UNUSED point is AUTO. -/
structure Plant.OverridesFit (st : Store) (X : Point → Prop) (pl : Plant) : Prop where
  unused : ∀ p, st.kind p = .unused → (pl.chan p).override = .auto
  fits : ∀ p, ¬X p → (pl.chan p).OverrideFit (st.kind p)

/-- No point's resolution is still to come. -/
abbrev noPoint : Point → Prop := fun _ => False

theorem overridesSound_iff (s : State) :
    s.OverridesSound ↔ (s.held = false → s.plant.OverridesFit s.store noPoint) :=
  forall_congr' fun _ =>
    ⟨fun h => ⟨fun p k => ((h p).1 k).2, fun p _ => ⟨fun k => ((h p).1 k).1, (h p).2⟩⟩,
      fun h p => ⟨fun k => ⟨(h.fits p id).1 k, h.unused p k⟩, (h.fits p id).2⟩⟩

/-- What a mode gives has another source than OVERRIDE. -/
theorem modeDemand_source (env : Env) (m : Mode) (p : Point) (c : Channel) :
    (modeDemand env m p c).source ≠ .override := by
  unfold modeDemand
  cases m with
  | fire => unfold fireDemand; dsimp only; split <;> simp
  | test => dsimp only; split <;> simp [normalDemand]
  | _ => simp [restoreDemand, normalDemand]

/-- The source of R35's demand is OVERRIDE exactly under an ON or OFF entry. -/
theorem resolution_source (env : Env) (m : Mode) (p : Point) (c : Channel) :
    (resolution env m p c).source = .override ↔ c.override ≠ .auto := by
  unfold resolution
  cases h : c.override with
  | auto => simp [overrideDemand, modeDemand_source]
  | _ => simp [overrideDemand]

theorem Channel.overrideFit_of_resolved {env : Env} {m : Mode} {p : Point} {k : Kind} {c c' : Channel}
    (hk : k ≠ .unused) (h : c.resolved = some (resolution env m p c')) (ho : c.override = c'.override) :
    c.OverrideFit k :=
  ⟨fun x => absurd x hk, by rw [h, ho, Option.map_some, Option.some_inj, resolution_source]⟩

theorem Channel.overrideFit_of_none {k : Kind} {c : Channel} (h : c.resolved = none) (ho : c.override = .auto) :
    c.OverrideFit k := ⟨fun _ => h, by rw [h, ho]; simp⟩

theorem Channel.OverrideFit.congr {k : Kind} {a b : Channel} (h : a.OverrideFit k) (ho : b.override = a.override)
    (hr : b.resolved = a.resolved) : b.OverrideFit k := by
  unfold Channel.OverrideFit
  rw [ho, hr]
  exact h

section Fit
variable {st : Store} {X : Point → Prop} {a b : Plant} (h : a.OverridesFit st X)
include h

theorem Plant.OverridesFit.congr (ho : ∀ p, (b.chan p).override = (a.chan p).override)
    (hr : ∀ p, (b.chan p).resolved = (a.chan p).resolved) : b.OverridesFit st X where
  unused p k := (ho p).trans (h.unused p k)
  fits p k := (h.fits p k).congr (ho p) (hr p)

theorem Plant.OverridesFit.sequencersOnly (k : a.SequencersOnly b) : b.OverridesFit st X := by
  obtain ⟨-, -, -, -, -, hc⟩ := k
  exact h.congr (fun p => by rw [hc p]) fun p => by rw [hc p]

/-- One channel replaced: the entry of an UNUSED point stays AUTO, and the point is fit or among those still to come. -/
theorem Plant.OverridesFit.setChan {p : Point} {c : Channel} {Y : Point → Prop}
    (hu : st.kind p = .unused → c.override = .auto) (hc : ¬Y p → c.OverrideFit (st.kind p))
    (hY : ∀ q, q ≠ p → X q → Y q) : (a.setChan p c).OverridesFit st Y where
  unused q k := by
    rw [Plant.chan_setChan]
    split
    · rename_i e; subst e; exact hu k
    · exact h.unused q k
  fits q k := by
    rw [Plant.chan_setChan]
    split
    · rename_i e; subst e; exact hc k
    · rename_i e; exact h.fits q fun x => k (hY q e x)

end Fit

theorem Plant.OverridesFit.mono {st : Store} {X Y : Point → Prop} {pl : Plant} (h : pl.OverridesFit st X)
    (k : ∀ p, X p → Y p) : pl.OverridesFit st Y := ⟨h.unused, fun p hp => h.fits p fun x => hp (k p x)⟩

theorem ResUpd.keeps_overridesFit {env : Env} {X : Point → Prop} {a b : Ev} (u : ResUpd env a b)
    (h : a.plant.OverridesFit env.store X) : b.plant.OverridesFit env.store X := by
  have put {p : Point} {c : Channel} (ho : c.override = (a.plant.chan p).override)
      (hc : ¬X p → c.OverrideFit (env.store.kind p)) : (a.plant.setChan p c).OverridesFit env.store X :=
    h.setChan (fun k => ho.trans (h.unused p k)) hc fun _ _ x => x
  cases u with
  | book hp _ _ => rw [hp]; exact h.congr (fun _ => rfl) fun _ => rfl
  | lastFire p _ _ => exact put rfl fun x => (h.fits p x).congr rfl rfl
  | noDemand p hk => exact put rfl fun _ => Channel.overrideFit_of_none rfl (h.unused p hk)
  | demand p hk => exact put rfl fun _ => Channel.overrideFit_of_resolved hk rfl rfl
  | testDemand p _ _ => exact put rfl fun x => (h.fits p x).congr rfl rfl
  | _ => exact h.congr (fun _ => rfl) fun _ => rfl

theorem Upd.keeps_overridesFit {env : Env} {X : Point → Prop} {Q : Prop} {a b : Ev} (u : Upd env Q a b)
    (h : a.plant.OverridesFit env.store X) : b.plant.OverridesFit env.store X := by
  cases u with
  | seq u => exact h.sequencersOnly u.sequencersOnly
  | res u => exact u.keeps_overridesFit h

theorem Moves.keeps_overridesFit {env : Env} {X : Point → Prop} {Q : Prop} {a b : Ev} (m : Moves env Q a b)
    (h : a.plant.OverridesFit env.store X) : b.plant.OverridesFit env.store X :=
  m.keeps (P := fun x => x.plant.OverridesFit env.store X) (fun _ _ u => u.keeps_overridesFit) h

/-- A resolution makes its point fit. -/
theorem resolvePoint_overrideFit {env : Env} {p : Point} {ev : Ev}
    (h : env.store.kind p = .unused → (ev.plant.chan p).override = .auto) (b : Bool) :
    ((resolvePoint env b ev p).plant.chan p).OverrideFit (env.store.kind p) := by
  by_cases hk : env.store.kind p = .unused
  · rw [resolvePoint_unused hk, Ev.setChan_plant, Plant.chan_setChan_self]
    exact Channel.overrideFit_of_none rfl (h hk)
  · have side := resolvePoint_resolverSide hk b ev p
    rw [if_pos rfl] at side
    have ho := congrArg Channel.override side
    exact Channel.overrideFit_of_resolved hk
      ((congrArg Channel.resolved side).trans (Channel.resolvedAt_resolved ..)) ho

theorem resolvePoint_overridesFit {env : Env} {X Y : Point → Prop} {p : Point} {ev : Ev}
    (h : ev.plant.OverridesFit env.store X) (hY : ∀ q, q ≠ p → X q → Y q) (b : Bool) :
    (resolvePoint env b ev p).plant.OverridesFit env.store Y := by
  have k := (resolvePoint_moves env False b ev p).keeps_overridesFit h
  refine ⟨k.unused, fun q hq => ?_⟩
  by_cases e : q = p
  · subst e; exact resolvePoint_overrideFit (h.unused q) b
  · exact k.fits q fun x => hq (hY q e x)

/-! ## The events -/

theorem setOverrides_chan (ps : List Point) (ev : Ev) (q : Point) :
    (ps.foldl (fun ev p => setOverride p .auto ev) ev).plant.chan q =
      if q ∈ ps then { ev.plant.chan q with override := .auto } else ev.plant.chan q := by
  induction ps generalizing ev with
  | nil => simp
  | cons p ps ih =>
    rw [List.foldl_cons, ih]
    simp only [setOverride, Ev.setChan_plant, Plant.chan_setChan, List.mem_cons]
    by_cases e : q = p
    · subst e; simp
    · simp [e]

/-- The points released are fit once each has been resolved. -/
theorem resolveReleased_overridesFit {env : Env} (l : List Point) {ev : Ev}
    (h : ev.plant.OverridesFit env.store (· ∈ l)) :
    (l.foldl (resolveReleased env) ev).plant.OverridesFit env.store noPoint := by
  induction l generalizing ev with
  | nil => exact h.mono fun p hp => absurd hp List.not_mem_nil
  | cons p ps ih =>
    refine ih ((settleAll_moves env False _).keeps_overridesFit
      (resolvePoint_overridesFit h (fun q hq x => ?_) false))
    exact (List.mem_cons.mp x).resolve_left hq

theorem allOverridesAuto_overridesFit {env : Env} {ev : Ev} (h : ev.plant.OverridesFit env.store noPoint) :
    (allOverridesAuto env ev).plant.OverridesFit env.store noPoint := by
  refine resolveReleased_overridesFit _ ⟨fun q k => ?_, fun q hq => ?_⟩ <;>
    rw [Ev.draw_chan, setOverrides_chan]
  · split
    · rfl
    · exact h.unused q k
  · rw [(inFreeOrder_perm _ _).mem_iff] at hq
    rw [if_neg hq]
    exact h.fits q id

theorem ResolverEvent.keeps_overridesFit {s : State} {g : Env → Ev → Ev} (e : ResolverEvent s g)
    (h : s.plant.OverridesFit s.store noPoint) :
    (g s.env (.start s.plant)).plant.OverridesFit s.store noPoint := by
  have chain {a b : Ev} (m : Moves s.env False a b)
      (ho : ∀ p, (a.plant.chan p).override = (s.plant.chan p).override)
      (hr : ∀ p, (a.plant.chan p).resolved = (s.plant.chan p).resolved) : b.plant.OverridesFit s.store noPoint :=
    m.keeps_overridesFit (env := s.env) (h.congr ho hr)
  cases e with
  | joining =>
    unfold joiningReportTaken
    split
    · exact h
    · exact chain (takeJoinReport_moves s.env False _ _) (fun _ => rfl) fun _ => rfl
  | override p v hv =>
    have k : (s.plant.setChan p { s.plant.chan p with override := v }).OverridesFit s.store (· = p) :=
      h.setChan (fun k => Decidable.byContradiction fun x => hv x k) (fun x => absurd rfl x) fun _ _ x => x.elim
    exact resolvePoint_overridesFit (env := s.env) (ev := setOverride p v (.start s.plant)) k
      (fun _ hq x => absurd x hq) false
  | allAuto => exact allOverridesAuto_overridesFit (env := s.env) (ev := .start s.plant) h
  | setNormal p a _ =>
    have k : (s.plant.setChan p { s.plant.chan p with normal := a }).OverridesFit s.store noPoint :=
      h.setChan (h.unused p) (fun x => (h.fits p x).congr rfl rfl) fun _ _ x => x
    unfold Machine.setNormal
    dsimp only
    split
    · exact (resolvePoint_moves s.env False false _ p).keeps_overridesFit k
    · exact k
  | beginTest first count _ _ _ =>
    unfold Machine.beginTest
    refine chain ((resolveAll_moves s.env False false _).trans (beginSteps_moves s.env False ?_ count first))
      (fun _ => rfl) fun _ => rfl
    rw [resolveAll_test]; rfl
  | haltTest _ =>
    exact chain (resolveAll_moves s.env False false _)
      (fun p => (abortTest_frame entriesKept_frame (.start s.plant) p).2.2.1) (abortTest_resolved (.start s.plant))
  | commission _ => exact chain (resolveAll_moves s.env False false _) (fun _ => rfl) fun _ => rfl
  | decommission _ => exact chain (resolveAll_moves s.env False false _) (fun _ => rfl) fun _ => rfl

theorem listReport_overridesFit {env : Env} {ev : Ev} (h : ev.plant.OverridesFit env.store noPoint) :
    (listReport env ev).plant.OverridesFit env.store noPoint := by
  refine (listReport_moves env False ev).keeps_overridesFit ?_
  split
  · exact h.congr (fun p => (abortTest_frame entriesKept_frame ev p).2.2.1) (abortTest_resolved ev)
  · exact h.congr (fun _ => rfl) fun _ => rfl

/-- A re-initialised point keeps its entry unless it becomes UNUSED, and is resolved again (R32, R39). -/
theorem reinitialise_overridesFit {env : Env} {st : Store} {n : Nat} {p : Point} {ev : Ev}
    (hst : st.SameBut p env.store) (h : ev.plant.OverridesFit st noPoint) :
    (reinitialise n p env ev).plant.OverridesFit env.store noPoint := by
  have kind {q : Point} (hq : q ≠ p) : env.store.kind q = st.kind q := by rw [Store.kind, Store.kind, hst q hq]
  have start : (ev.plant.setChan p ((ev.plant.chan p).reinitialised (env.store.point p))).OverridesFit env.store
      (· = p) := by
    refine ⟨fun q k => ?_, fun q hq => ?_⟩ <;> rw [Plant.chan_setChan]
    · split
      · rename_i e; subst e; exact if_pos k
      · rename_i hq; exact h.unused q (kind hq ▸ k)
    · rw [if_neg hq, kind hq]; exact h.fits q id
  rw [reinitialise_plant]
  exact resolvePoint_overridesFit (start.sequencersOnly recordReplaced_sequencersOnly)
    (fun _ hq x => absurd x hq) true

/-- After a reset every entry is AUTO and no demand is held, until the resolver hands them (R29, R49). -/
theorem deviceResetEnds_overridesFit (s : State) :
    (deviceResetEnds s).plant.OverridesFit (deviceResetEnds s).store noPoint := by
  rw [deviceResetEnds_store]
  obtain ⟨ev, e, h⟩ := deviceResetEnds_keeps s (P := fun ev => ev.plant.OverridesFit s.blocksReset.store noPoint)
    (fun _ _ u k => u.keeps_overridesFit k)
    ⟨fun p _ => by rw [Ev.start_plant, State.blocksReset_chan]; rfl, fun p _ => by
      rw [Ev.start_plant, State.blocksReset_chan]; exact Channel.overrideFit_of_none rfl rfl⟩
  rw [e]
  exact h

theorem overridesFit_law : PlantLaw fun st pl => pl.OverridesFit st noPoint where
  draws _ h := h.congr (fun _ => rfl) fun _ => rfl
  sameKinds {st st' _} e h := by
    have kind (p : Point) : st'.kind p = st.kind p := by rw [Store.kind, Store.kind, e p]
    exact ⟨fun p k => h.unused p (kind p ▸ k), fun p k => kind p ▸ h.fits p k⟩
  count s h := h.congr (fun p => by rw [State.countPasses_chan]; rfl) fun p => by rw [State.countPasses_chan]; rfl
  event s g e h := by
    refine State.runEvent_keeps (P := fun pl => pl.OverridesFit s.store noPoint)
      (fun _ _ u k => u.keeps_overridesFit k) ?_
    rcases e.cases_line with k | k
    · have l := (k _ linesOnly_frame).chans
      exact h.congr (fun p => by rw [l p]) fun p => by rw [l p]
    · exact k.keeps_overridesFit h
  report s h :=
    State.runEvent_keeps (P := fun pl => pl.OverridesFit s.store noPoint)
      (fun _ _ u k => u.keeps_overridesFit k) (listReport_overridesFit (env := s.env) (ev := .start s.plant) h)
  limit s v h :=
    State.runEvent_keeps (P := fun pl => pl.OverridesFit s.store noPoint)
      (fun _ _ u k => u.keeps_overridesFit k) (h.sequencersOnly (newLimit_frame sequencersOnly_frame v _))
  reinit s st n p hst h :=
    State.runEvent_keeps (P := fun pl => pl.OverridesFit s.store noPoint)
      (fun _ _ u k => u.keeps_overridesFit k)
      (reinitialise_overridesFit (env := s.env) (ev := .start s.plant) hst h)
  ends s := deviceResetEnds_overridesFit s

/-- Settles O16: a resolved demand has source OVERRIDE exactly under an ON or OFF entry (`resolution_source`), and every
change of an entry is followed by the resolution of its point (`ResolverEvent.keeps_overridesFit`). -/
theorem overridesStaySound : Obligations.OverridesStaySound := by
  intro s t h e
  obtain ⟨hk, ho⟩ := h
  exact ⟨kindsFit_law.step_keeps hk e,
    (overridesSound_iff t).mpr (overridesFit_law.step_keeps ((overridesSound_iff s).mp ho) e)⟩

end Sys2Proof.Machine
end

section
/-! SUPPORT. The interlock (R75) through the operations of the two sequencers: which of them keep it, and which fans one
of them leaves to the trip that follows (`Plant.Interlocked`). -/

namespace Sys2Proof.Machine

/-! ## The law, but for fans whose trip is still to come -/

/-- CMD as a record asks (R22, R51, R75). -/
def Equipment.cmdAsked (c : PointCfg) : Equipment → Bool
  | .unused => false
  | .damper d => damperCmd c d
  | .fan f => f.state.energised

/-- Every point has the record of its stored kind and the CMD which that asks; an energised fan has open paths, or an
override, or its interlock trip is still to come (`X`); and it has a GOOD supply, or its supply trip is still to come
(`Y`). -/
structure Plant.Interlocked (st : Store) (X Y : Point → Prop) (pl : Plant) : Prop where
  kinds : pl.KindsFit st
  cmd : ∀ p, (pl.chan p).cmd = (pl.chan p).unit.cmdAsked (st.point p)
  supply : ∀ p f, pl.fan? p = some f → f.state.energised = true → Y p ∨ pl.supply.state = .good
  path : ∀ p f, pl.fan? p = some f → f.state.energised = true →
    X p ∨ f.underOverride = true ∨ pathOpen st pl p = true

theorem pathOpen_iff {st : Store} {pl : Plant} {q : Point} :
    pathOpen st pl q = true ↔ ∀ d ∈ st.pathDampers q, pl.isOpen d = true := List.all_eq_true

theorem Store.mem_pathFans {st : Store} {p q : Point} :
    q ∈ st.pathFans p ↔ st.kind q = .fan ∧ p ∈ st.pathDampers q := by simp [Store.pathFans, allPoints]

theorem Plant.isOpen_iff {pl : Plant} {p : Point} : pl.isOpen p = true ↔ ∃ d, pl.damper? p = some d ∧ d.pos = .opened := by
  unfold Plant.isOpen
  split
  · rename_i d h; simp [h]
  · rename_i h; simp [h]

theorem Plant.kind_of_fan? {pl : Plant} {p : Point} {f : Fan} (h : pl.fan? p = some f) :
    (pl.chan p).unit.kind = .fan := by rw [Plant.fan?_eq_some.mp h]; rfl

theorem Plant.damper?_of_fan? {pl : Plant} {p : Point} {f : Fan} (h : pl.fan? p = some f) : pl.damper? p = none := by
  simp [Plant.damper?, Channel.damper?, Plant.fan?_eq_some.mp h]

section Rules
variable {st : Store} {X Y : Point → Prop} {a b : Plant} (h : a.Interlocked st X Y)
include h

/-- Records, CMD and supply state as they were. -/
theorem Plant.Interlocked.congr (hu : ∀ q, (b.chan q).unit = (a.chan q).unit) (hc : ∀ q, (b.chan q).cmd = (a.chan q).cmd)
    (hs : b.supply.state = a.supply.state) : b.Interlocked st X Y := by
  have fan (q : Point) : b.fan? q = a.fan? q := by simp [Plant.fan?, Channel.fan?, hu q]
  have opens : b.isOpen = a.isOpen := by
    funext q; simp [Plant.isOpen, Plant.damper?, Channel.damper?, hu q]
  refine ⟨h.kinds.congr fun q => by rw [hu q], fun q => by rw [hc q, hu q, h.cmd q], fun q f hf he => ?_,
    fun q f hf he => ?_⟩ <;> rw [fan] at hf
  · rw [hs]; exact h.supply q f hf he
  · rw [pathOpen, opens]; exact h.path q f hf he

theorem Plant.Interlocked.unitsKept (k : a.UnitsKept b) : b.Interlocked st X Y :=
  h.congr (fun q => (k.1 q).1) (fun q => (k.1 q).2) (by rw [k.2.2])

theorem Plant.Interlocked.mono {X' Y' : Point → Prop} (hX : ∀ q, X q → X' q) (hY : ∀ q, Y q → Y' q) :
    a.Interlocked st X' Y' :=
  ⟨h.kinds, h.cmd, fun q f hf he => (h.supply q f hf he).imp_left (hY q),
    fun q f hf he => (h.path q f hf he).imp_left (hX q)⟩

/-- A point whose fan, if it has one, has open paths or an override is none whose interlock trip is to come. -/
theorem Plant.Interlocked.settled {X' : Point → Prop} {p : Point} (hX : ∀ q, q ≠ p → X q → X' q)
    (hp : ∀ f, a.fan? p = some f → f.state.energised = true → f.underOverride = true ∨ pathOpen st a p = true) :
    a.Interlocked st X' Y :=
  ⟨h.kinds, h.cmd, h.supply, fun q f hf he => by
    by_cases e : q = p
    · subst e; exact .inr (hp f hf he)
    · exact (h.path q f hf he).imp_left (hX q e)⟩

/-- A fan's record written with its CMD: the law as it concerns the fan, and no other. -/
theorem Plant.Interlocked.setFan {X' Y' : Point → Prop} {p : Point} {o f : Fan} (ho : a.fan? p = some o)
    (hX : ∀ q, q ≠ p → X q → X' q) (hY : ∀ q, q ≠ p → Y q → Y' q)
    (hf : f.state.energised = true →
      (Y' p ∨ a.supply.state = .good) ∧ (X' p ∨ f.underOverride = true ∨ pathOpen st a p = true)) :
    (a.setChan p { a.chan p with unit := .fan f, cmd := f.state.energised }).Interlocked st X' Y' := by
  have opens : (a.setChan p { a.chan p with unit := .fan f, cmd := f.state.energised }).isOpen = a.isOpen := by
    funext q
    rw [Plant.isOpen, Plant.damper?_setChan]
    by_cases e : q = p
    · subst e; rw [if_pos rfl, Plant.isOpen, Plant.damper?_of_fan? ho]; rfl
    · rw [if_neg e]; rfl
  have fan (q : Point) (g : Fan)
      (hg : (a.setChan p { a.chan p with unit := .fan f, cmd := f.state.energised }).fan? q = some g) :
      (q = p ∧ g = f) ∨ (q ≠ p ∧ a.fan? q = some g) := by
    rw [Plant.fan?_setChan] at hg
    split at hg
    · rename_i e; exact .inl ⟨e, (Option.some.inj hg).symm⟩
    · rename_i e; exact .inr ⟨e, hg⟩
  refine ⟨fun q => ?_, fun q => ?_, fun q g hg he => ?_, fun q g hg he => ?_⟩
  · rw [Plant.chan_setChan]
    split
    · rename_i e; subst e; rw [← h.kinds q, Plant.kind_of_fan? ho]; rfl
    · exact h.kinds q
  · rw [Plant.chan_setChan]
    split
    · rfl
    · exact h.cmd q
  · rcases fan q g hg with ⟨rfl, rfl⟩ | ⟨e, hg⟩
    · exact (hf he).1
    · exact (h.supply q g hg he).imp_left (hY q e)
  · rw [pathOpen, opens]
    rcases fan q g hg with ⟨rfl, rfl⟩ | ⟨e, hg⟩
    · exact (hf he).2
    · exact (h.path q g hg he).imp_left (hX q e)

/-- A fan's record written in its state and under its held demand. -/
theorem Plant.Interlocked.setFan_same {p : Point} {o f : Fan} (ho : a.fan? p = some o) (hs : f.state = o.state)
    (hh : f.held = o.held) : (a.setChan p { a.chan p with unit := .fan f }).Interlocked st X Y := by
  have cmd : (a.chan p).cmd = f.state.energised := by
    rw [h.cmd p, Plant.fan?_eq_some.mp ho, hs]; rfl
  have same : f.underOverride = o.underOverride := by rw [Fan.underOverride, hh, Fan.underOverride]
  have k := h.setFan (f := f) ho (fun _ _ x => x) (fun _ _ x => x) fun he => by
    rw [hs] at he
    rw [same]
    exact ⟨h.supply p o ho he, h.path p o ho he⟩
  rwa [← cmd] at k

/-- A damper's record written with its CMD: a damper that leaves OPEN leaves its path fans to their trip. -/
theorem Plant.Interlocked.setDamper {X' : Point → Prop} {p : Point} {o d : Damper} (ho : a.damper? p = some o)
    (hX : ∀ q, X q → X' q) (hl : a.isOpen p = true → d.pos ≠ .opened → ∀ q ∈ st.pathFans p, X' q) :
    (a.setChan p { a.chan p with unit := .damper d, cmd := damperCmd (st.point p) d }).Interlocked st X' Y := by
  let b := a.setChan p { a.chan p with unit := .damper d, cmd := damperCmd (st.point p) d }
  have fan (q : Point) : b.fan? q = a.fan? q := by
    rw [Plant.fan?_setChan]
    split
    · rename_i e; subst e; simp [Plant.fan?, Channel.fan?, Plant.damper?_eq_some.mp ho]
    · rfl
  have opens {q : Point} (hq : a.isOpen q = true) : b.isOpen q = true ∨ (q = p ∧ d.pos ≠ .opened) := by
    rw [Plant.isOpen, Plant.damper?_setChan]
    by_cases e : q = p
    · by_cases hd : d.pos = .opened
      · left; simp [e, Channel.damper?, hd]
      · exact .inr ⟨e, hd⟩
    · left; rw [if_neg e]; exact hq
  refine ⟨fun q => ?_, fun q => ?_, fun q f hf he => ?_, fun q f hf he => ?_⟩
  · rw [Plant.chan_setChan]
    split
    · rename_i e; subst e; rw [← h.kinds q, Plant.damper?_eq_some.mp ho]; rfl
    · exact h.kinds q
  · rw [Plant.chan_setChan]
    split
    · rename_i e; subst e; rfl
    · exact h.cmd q
  · rw [fan] at hf; exact h.supply q f hf he
  · rw [fan] at hf
    rcases h.path q f hf he with k | k | k
    · exact .inl (hX q k)
    · exact .inr (.inl k)
    · by_cases lost : p ∈ st.pathDampers q ∧ a.isOpen p = true ∧ d.pos ≠ .opened
      · have kind : st.kind q = .fan := by rw [← h.kinds q]; exact Plant.kind_of_fan? hf
        exact .inl (hl lost.2.1 lost.2.2 q (Store.mem_pathFans.mpr ⟨kind, lost.1⟩))
      · rw [pathOpen_iff] at k
        refine .inr (.inr (pathOpen_iff.mpr fun e he => (opens (k e he)).resolve_right ?_))
        rintro ⟨rfl, hd⟩
        exact lost ⟨he, k e he, hd⟩

end Rules

/-! ## The operations -/

/-- What each step of a fold keeps of the plant, the fold keeps. -/
theorem foldl_keeps {α : Type} {P : Plant → Prop} {g : Ev → α → Ev} (hg : ∀ x y, P x.plant → P (g x y).plant)
    (l : List α) {ev : Ev} (h : P ev.plant) : P (l.foldl g ev).plant := by
  induction l generalizing ev with
  | nil => exact h
  | cons y ys ih => exact ih (hg _ _ h)

section Operations
variable {env : Env} {X Y : Point → Prop} {ev : Ev} (h : ev.plant.Interlocked env.store X Y)
include h

theorem putDamper_interlocked {X' : Point → Prop} {p : Point} (d : Damper) (hX : ∀ q, X q → X' q)
    (hl : ev.plant.isOpen p = true → d.pos ≠ .opened → ∀ q ∈ env.store.pathFans p, X' q) :
    (putDamper env p d ev).plant.Interlocked env.store X' Y := by
  rw [putDamper_plant]
  split
  · rename_i hd
    obtain ⟨o, ho⟩ := Option.isSome_iff_exists.mp hd
    exact h.setDamper ho hX hl
  · exact h.mono hX fun _ x => x

/-- A damper in WAITFAN has no open path to lose. -/
theorem releaseOne_interlocked (p : Point) : (releaseOne env ev p).plant.Interlocked env.store X Y := by
  unfold releaseOne
  split
  · exact h
  · rename_i d hd
    split
    · rename_i w
      refine putDamper_interlocked h _ (fun _ x => x) fun ho => ?_
      obtain ⟨x, hx, hp⟩ := Plant.isOpen_iff.mp ho
      rw [hd] at hx
      cases hx
      rw [w.1] at hp
      cases hp
    · exact h

theorem releaseWaiting_interlocked : (releaseWaiting env ev).plant.Interlocked env.store X Y :=
  foldl_keeps (P := Plant.Interlocked env.store X Y) (fun _ p k => releaseOne_interlocked k p) _ h

theorem putFan_interlocked {X' Y' : Point → Prop} {p : Point} (f : Fan) (hX : ∀ q, q ≠ p → X q → X' q)
    (hY : ∀ q, q ≠ p → Y q → Y' q)
    (hf : f.state.energised = true →
      (Y' p ∨ ev.plant.supply.state = .good) ∧
        (X' p ∨ f.underOverride = true ∨ pathOpen env.store ev.plant p = true)) :
    (putFan env p f ev).plant.Interlocked env.store X' Y' := by
  cases ho : ev.plant.fan? p with
  | none =>
    have ne {q : Point} {g : Fan} (hg : ev.plant.fan? q = some g) : q ≠ p := by rintro rfl; rw [ho] at hg; cases hg
    have e : putFan env p f ev = ev := by simp [putFan, ho]
    rw [e]
    exact ⟨h.kinds, h.cmd, fun q g hg he => (h.supply q g hg he).imp_left (hY q (ne hg)),
      fun q g hg he => (h.path q g hg he).imp_left (hX q (ne hg))⟩
  | some o =>
    obtain ⟨b, r, c, -, e⟩ := putFan_eq env p f ho
    rw [e]
    have k := h.setFan (f := f.norm (env.store.point p)) ho hX hY hf
    have k3 : (if r = true then (schedulerFollows env p o (f.norm (env.store.point p))
        ((ev.setChan p { ev.plant.chan p with
          unit := .fan (f.norm (env.store.point p))
          cmd := (f.norm (env.store.point p)).state.energised }).markIf b p)).report
            (.fan p (f.norm (env.store.point p)).state (f.norm (env.store.point p)).fault)
        else schedulerFollows env p o (f.norm (env.store.point p))
        ((ev.setChan p { ev.plant.chan p with
          unit := .fan (f.norm (env.store.point p))
          cmd := (f.norm (env.store.point p)).state.energised }).markIf b p)).plant.Interlocked env.store X' Y' := by
      rw [reportIf_plant]
      refine k.congr (fun q => ?_) (fun q => ?_) ?_
      · rw [schedulerFollows_chan, Ev.markIf_plant]; rfl
      · rw [schedulerFollows_chan, Ev.markIf_plant]; rfl
      · rw [(schedulerFollows_frame sequencersOnly_frame env p o _ _).2.2.1, Ev.markIf_plant]; rfl
    split
    · exact releaseWaiting_interlocked k3
    · exact k3

/-- A fan record that is not energised may be written at any time. -/
theorem putFan_interlocked_of_rest {X' Y' : Point → Prop} {p : Point} {f : Fan} (hf : f.state.energised = false)
    (hX : ∀ q, q ≠ p → X q → X' q) (hY : ∀ q, q ≠ p → Y q → Y' q) :
    (putFan env p f ev).plant.Interlocked env.store X' Y' :=
  putFan_interlocked h f hX hY fun he => by rw [hf] at he; cases he

/-- A fan record written under the demand and, if it is energised, in an energised state as before. -/
theorem putFan_interlocked_of_held {p : Point} {o f : Fan} (ho : ev.plant.fan? p = some o) (hh : f.held = o.held)
    (hs : f.state.energised = true → o.state.energised = true) :
    (putFan env p f ev).plant.Interlocked env.store X Y := by
  have same : f.underOverride = o.underOverride := by rw [Fan.underOverride, hh, Fan.underOverride]
  refine putFan_interlocked h f (fun _ _ x => x) (fun _ _ x => x) fun he => ?_
  rw [same]
  exact ⟨h.supply p o ho (hs he), h.path p o ho (hs he)⟩

/-- A fan that runs down needs no trip. -/
theorem enterRunDown_interlocked {X' Y' : Point → Prop} (p : Point) (hX : ∀ q, q ≠ p → X q → X' q)
    (hY : ∀ q, q ≠ p → Y q → Y' q) : (enterRunDown env p ev).plant.Interlocked env.store X' Y' := by
  cases ho : ev.plant.fan? p with
  | none =>
    have e : enterRunDown env p ev = putFan env p (Fan.afterReset (env.store.point p) .high) ev := by
      simp [enterRunDown, putFan, ho]
    rw [e]
    refine putFan_interlocked_of_rest h ?_ hX hY
    simp only [Fan.afterReset, Fan.norm_state]
    split <;> rfl
  | some o =>
    have k : (putFan env p (o.toRunDown (env.store.point p)) ev).plant.Interlocked env.store X' Y' :=
      putFan_interlocked_of_rest h rfl hX hY
    rw [enterRunDown_eq env ho]
    split
    · refine putFan_interlocked_of_rest k ?_ (fun _ _ x => x) fun _ _ x => x
      simp only [Fan.afterRunDown]
      split <;> rfl
    · exact k

end Operations

section Trips
variable {env : Env} {X Y : Point → Prop} {ev : Ev}

theorem interlockTrip_interlocked {X' : Point → Prop} (h : ev.plant.Interlocked env.store X Y) (q : Point)
    (hX : ∀ p, p ≠ q → X p → X' p) : (interlockTrip env ev q).plant.Interlocked env.store X' Y := by
  unfold interlockTrip
  split
  · rename_i hf
    exact h.settled hX fun f x => by rw [hf] at x; cases x
  · rename_i f hf
    split
    · exact enterRunDown_interlocked h q hX fun _ _ x => x
    · rename_i c
      refine h.settled hX fun g hg he => .inl ?_
      rw [hf] at hg
      cases hg
      simpa [he] using c

theorem tripFans_interlocked (l : List Point) (h : ev.plant.Interlocked env.store (fun q => X q ∨ q ∈ l) Y) :
    (l.foldl (interlockTrip env) ev).plant.Interlocked env.store X Y := by
  induction l generalizing ev with
  | nil => exact h.mono (fun q x => x.resolve_right List.not_mem_nil) fun _ x => x
  | cons p ps ih =>
    refine ih (interlockTrip_interlocked h p fun q hq x => x.imp_right fun m => ?_)
    exact (List.mem_cons.mp m).resolve_left hq

/-- The trip of a damper's path fans leaves none to come (R69, R86). -/
theorem tripPathFans_interlocked {p : Point}
    (h : ev.plant.Interlocked env.store (fun q => X q ∨ q ∈ env.store.pathFans p) Y) :
    (tripPathFans env p ev).plant.Interlocked env.store X Y := tripFans_interlocked _ h

theorem supplyTripOne_interlocked {Y' : Point → Prop} (h : ev.plant.Interlocked env.store X Y) (q : Point)
    (hY : ∀ p, p ≠ q → Y p → Y' p) : (supplyTripOne env ev q).plant.Interlocked env.store X Y' := by
  have rest (hq : ∀ f, ev.plant.fan? q = some f → f.state.energised = false) :
      ev.plant.Interlocked env.store X Y' :=
    ⟨h.kinds, h.cmd, fun p f hf he => by
      by_cases e : p = q
      · subst e; rw [hq f hf] at he; cases he
      · exact (h.supply p f hf he).imp_left (hY p e), h.path⟩
  unfold supplyTripOne
  split
  · rename_i hf
    exact rest fun f x => by rw [hf] at x; cases x
  · rename_i f hf
    split
    · exact enterRunDown_interlocked h q (fun _ _ x => x) hY
    · rename_i c
      refine rest fun g hg => ?_
      rw [hf] at hg
      cases hg
      simpa using c

theorem supplyTripFans_interlocked (l : List Point) (h : ev.plant.Interlocked env.store X (· ∈ l)) :
    (l.foldl (supplyTripOne env) ev).plant.Interlocked env.store X noPoint := by
  induction l generalizing ev with
  | nil => exact h.mono (fun _ x => x) fun q x => absurd x List.not_mem_nil
  | cons p ps ih =>
    exact ih (supplyTripOne_interlocked h p fun q hq x => (List.mem_cons.mp x).resolve_left hq)

theorem withSched_interlocked (h : ev.plant.Interlocked env.store X Y) (g : Scheduler → Scheduler) :
    (ev.withSched g).plant.Interlocked env.store X Y := h.congr (fun _ => rfl) (fun _ => rfl) rfl

theorem testPendingLimit_interlocked (h : ev.plant.Interlocked env.store X Y) :
    ev.testPendingLimit.plant.Interlocked env.store X Y := by
  refine h.congr (fun q => by rw [testPendingLimit_chan]) (fun q => by rw [testPendingLimit_chan]) ?_
  rw [(testPendingLimit_frame sequencersOnly_frame ev).2.2.1]

/-- The supply trip of every fan leaves none energised without a supply (R88, R116). -/
theorem supplyTrip_interlocked (h : ev.plant.Interlocked env.store X fun _ => True) :
    (supplyTrip env ev).plant.Interlocked env.store X noPoint := by
  have k := supplyTripFans_interlocked allPoints
    (h.mono (Y' := (· ∈ allPoints)) (fun _ x => x) fun q _ => by simp [allPoints])
  exact testPendingLimit_interlocked (withSched_interlocked k _)

variable (h : ev.plant.Interlocked env.store X Y)
include h

theorem moveDamper_interlocked (p : Point) (d : Damper) :
    (moveDamper env p d ev).plant.Interlocked env.store X Y := by
  unfold moveDamper
  dsimp only
  split
  · exact tripPathFans_interlocked
      (putDamper_interlocked h d (fun _ x => .inl x) fun _ _ q hq => .inr hq)
  · rename_i c
    refine putDamper_interlocked h d (fun _ x => x) fun ho hd => ?_
    simp [ho, hd] at c

theorem handDamper_interlocked (p : Point) (e : DamperEnd) (src : Source) :
    (handDamper env p e src ev).plant.Interlocked env.store X Y := by
  unfold handDamper
  split
  · exact h
  · exact moveDamper_interlocked h ..

/-- A demand handed to an energised fan: until the fan runs down it may stand against a path that is not open. -/
theorem handFan_energised_interlocked {p : Point} {o f : Fan} (ho : ev.plant.fan? p = some o)
    (he : o.state.energised = true) :
    (putFan env p f ev).plant.Interlocked env.store (fun q => X q ∨ q = p) Y :=
  putFan_interlocked h f (fun _ _ x => .inl x) (fun _ _ x => x) fun _ => ⟨h.supply p o ho he, .inl (.inr rfl)⟩

theorem handFan_interlocked (p : Point) (w : FanWant) (src : Source) :
    (handFan env p w src ev).plant.Interlocked env.store X Y := by
  unfold handFan
  split
  · exact h
  · rename_i o ho
    have others {q : Point} (hq : q ≠ p) (x : X q ∨ q = p) : X q := x.resolve_right hq
    have takes (n : Nat) (he : o.state.energised = true) :
        (let x := putFan env p { o with held := some ⟨w, src⟩, speed := o.speed.take (env.store.point p) n } ev
        if src ≠ .override ∧ pathOpen env.store x.plant p = false then enterRunDown env p x
        else x).plant.Interlocked env.store X Y := by
      have k := handFan_energised_interlocked h
        (f := { o with held := some ⟨w, src⟩, speed := o.speed.take (env.store.point p) n }) ho he
      dsimp only
      split
      · exact enterRunDown_interlocked k p (fun q hq => others hq) fun _ _ x => x
      · rename_i c
        refine k.settled (fun q hq => others hq) fun g hg _ => ?_
        rw [putFan_fan?_self env _ ho] at hg
        cases hg
        by_cases hs : src = .override
        · left; simp [Fan.underOverride, hs]
        · right; simpa [hs] using c
    have stops (he : o.state.energised = true) :
        (enterRunDown env p (putFan env p { o with held := some ⟨w, src⟩ } ev)).plant.Interlocked env.store X Y :=
      enterRunDown_interlocked (handFan_energised_interlocked h ho he) p (fun q hq => others hq) fun _ _ x => x
    have rests {f : Fan} (hf : f.state.energised = false) : (putFan env p f ev).plant.Interlocked env.store X Y :=
      putFan_interlocked_of_rest h hf (fun _ _ x => x) fun _ _ x => x
    dsimp only
    split <;> rename_i hs
    · exact rests rfl
    · exact rests rfl
    · exact rests (f := { o with held := _ }) (by rw [hs]; rfl)
    iterate 3 · exact takes _ (by rw [hs]; rfl)
    iterate 3 · exact stops (by rw [hs]; rfl)
    iterate 3 · exact rests (f := { o with held := _ }) (by rw [hs]; rfl)

theorem handDemand_interlocked (p : Point) (d : Demand) :
    (handDemand env p d ev).plant.Interlocked env.store X Y := by
  unfold handDemand
  split
  · exact h
  · exact handDamper_interlocked h ..
  · exact handFan_interlocked h ..

end Trips

/-! ## The evaluation -/

/-- The evaluation starts a fan only under a GOOD supply and with its paths open, or under override (R105, R106). -/
theorem evaluationWalk_interlocked {env : Env} {X Y : Point → Prop} (b : Bool) (l : List Point) {ev : Ev}
    (h : ev.plant.Interlocked env.store X Y) : (evaluationWalk env b l ev).plant.Interlocked env.store X Y := by
  have waits {x : Ev} {p : Point} {f : Fan} (r : WaitReason) (hx : x.plant.Interlocked env.store X Y)
      (hf : x.plant.fan? p = some f) : (setWait p f r x).plant.Interlocked env.store X Y :=
    hx.setFan_same hf rfl rfl
  induction l generalizing b ev with
  | nil => exact h
  | cons p ps ih =>
    unfold evaluationWalk
    split
    · exact ih b h
    · rename_i f hf
      split
      · exact ih b (waits _ h hf)
      · rename_i passed
        split
        · exact ih true (waits _ h hf)
        · split
          · exact ih true (waits _ h hf)
          · rename_i admitted
            refine ih false ?_
            have supply : ev.plant.supply.state = .good := by
              by_contra hs
              simp [candidateWaits, hs] at admitted
            have path : f.underOverride = true ∨ pathOpen env.store ev.plant p = true := by
              by_contra hp
              obtain ⟨h1, h2⟩ := not_or.mp hp
              simp [passedOver, h1, h2] at passed
            have k := putFan_interlocked h (f.started (env.store.point p)) (fun _ _ x => x) (fun _ _ x => x)
              fun _ => ⟨.inr supply, .inr path⟩
            exact withSched_interlocked k _

end Sys2Proof.Machine
end

section
/-! SUPPORT. What the resolver and the test unit do to the sequencers' records, said once: they hand demands, and nothing
else (`HandLaw`). A law of the plant that survives the handing of a demand survives every resolution, every step of a
test and the settling of the reports. -/

namespace Sys2Proof.Machine

/-- A law of the plant that reads only the records with their CMD, the scheduler and the supply, and that survives the
handing of a demand. -/
structure HandLaw (env : Env) (P : Plant → Prop) : Prop where
  kept : ∀ {a b : Plant}, a.UnitsKept b → P a → P b
  hand : ∀ (p : Point) (d : Demand) (ev : Ev), P ev.plant → P (handDemand env p d ev).plant

section Laws
variable {env : Env} {P : Plant → Prop} (L : HandLaw env P)
include L

variable {ev : Ev} (h : P ev.plant)
include h

theorem withTest_law (g : TestRecord → TestRecord) : P (ev.withTest g).plant :=
  L.kept (a := ev.plant) ⟨fun _ => ⟨rfl, rfl⟩, rfl, rfl⟩ h

theorem setMode_law (m : Mode) : P (ev.setMode m).plant :=
  L.kept (a := ev.plant) ⟨fun _ => ⟨rfl, rfl⟩, rfl, rfl⟩ h

/-! ## The resolver -/

theorem storeLastFire_law (p : Point) : P (storeLastFire env p ev).plant := by
  rw [storeLastFire_plant, Channel.fireStored_eq]
  exact L.kept (Plant.unitsKept_setChan rfl rfl) h

theorem handOver_law (p : Point) (d : Demand) : P (handOver env p d ev).plant := by
  have k : P (ev.plant.setChan p { ev.plant.chan p with resolved := some d }) :=
    L.kept (Plant.unitsKept_setChan rfl rfl) h
  unfold handOver
  dsimp only
  refine L.hand _ _ _ ?_
  split <;> exact k

theorem resolvePoint_law (b : Bool) (p : Point) : P (resolvePoint env b ev p).plant := by
  unfold resolvePoint
  split
  · exact L.kept (Plant.unitsKept_setChan rfl rfl) h
  · dsimp only
    split
    · exact handOver_law L (storeLastFire_law L h p) ..
    · exact storeLastFire_law L h p

theorem storeAllLastFire_law : P (storeAllLastFire env ev).plant := by
  refine foldl_keeps (P := P) (fun x p hx => ?_) _ h
  split
  · exact hx
  · exact storeLastFire_law L hx p

theorem resolveAll_law (b : Bool) : P (resolveAll env b ev).plant :=
  foldl_keeps (P := P) (fun _ p hx => resolvePoint_law L hx b p) _
    (ev := (storeAllLastFire env ev).draw)
    (L.kept (a := (storeAllLastFire env ev).plant) ⟨fun _ => ⟨rfl, rfl⟩, rfl, rfl⟩ (storeAllLastFire_law L h))

/-! ## The proof test -/

theorem setTestDemand_law (p : Point) (a : Option Action) : P (setTestDemand env p a ev).plant :=
  resolvePoint_law L (ev := ev.setChan p { ev.plant.chan p with testDemand := a })
    (L.kept (Plant.unitsKept_setChan rfl rfl) h) false p

theorem testDone_law : P (testDone env ev).plant := resolveAll_law L (setMode_law L (withTest_law L h _) _) false

theorem beginSteps_law (n k : Nat) : P (beginSteps env n k ev).plant := by
  induction n generalizing k ev with
  | zero => exact testDone_law L h
  | succ n ih =>
    unfold beginSteps
    split
    · dsimp only
      have current := withTest_law L h fun t => { t with current := some ⟨k, by assumption⟩ }
      split
      · exact ih current _
      · exact ih (withTest_law L current _) _
      · exact setTestDemand_law L (withTest_law L current _) ..
      · exact setTestDemand_law L (withTest_law L current _) ..
    · exact testDone_law L h

theorem endStep_law (p : Point) (o : TestOutcome) : P (endStep env p o ev).plant :=
  beginSteps_law L (setTestDemand_law L (withTest_law L h _) ..) ..

theorem takeDamperReport_law (p : Point) (pos : Option DamperPos) (x : DamperFault) :
    P (takeDamperReport env p pos x ev).plant := by
  unfold takeDamperReport
  split
  · split
    · exact endStep_law L h ..
    · split
      · exact setTestDemand_law L (withTest_law L h _) ..
      · exact h
  · split
    · exact endStep_law L h ..
    · split
      · exact endStep_law L h ..
      · exact h
  · exact h

theorem takeFanReport_law (p : Point) (st : FanState) (x : FanFault) : P (takeFanReport env p st x ev).plant := by
  unfold takeFanReport
  split
  · split
    · exact setTestDemand_law L (withTest_law L h _) ..
    · exact endStep_law L h ..
    · exact h
  · split
    · exact endStep_law L h ..
    · exact h
  · exact h

theorem takeJoinReport_law (r : JoinReport) : P (takeJoinReport env r ev).plant := by
  unfold takeJoinReport
  split
  · split
    · exact endStep_law L h ..
    · exact endStep_law L h ..
    · exact h
  · exact h

theorem checkRestore_law : P (checkRestore env ev).plant := by
  unfold checkRestore
  split
  · exact resolveAll_law L (setMode_law L h _) false
  · exact h

theorem takeReport_law (r : Report) : P (takeReport env ev r).plant := by
  cases r with
  | damper p pos x =>
    simp only [takeReport]
    split
    · exact takeDamperReport_law L h ..
    · exact h
  | fan p st x =>
    simp only [takeReport]
    split
    · exact takeFanReport_law L (checkRestore_law L h) ..
    · exact checkRestore_law L h
  | override p =>
    simp only [takeReport]
    split
    · exact endStep_law L h ..
    · exact h
  | restoreCheck => exact checkRestore_law L h

/-! ## The event as a whole -/

theorem settle_law (n : Nat) : P (settle env n ev).plant := by
  induction n generalizing ev with
  | zero => exact h
  | succ n ih =>
    unfold settle
    split
    · exact h
    · exact ih (foldl_keeps (P := P) (fun _ r hx => takeReport_law L hx r) _ (ev := { ev with reports := [] }) h)

/-- The settling of the reports, then the evaluation. -/
theorem finishEvent_law (he : ∀ x : Ev, P x.plant → P (evaluate env x).plant) : P (finishEvent env ev).plant := by
  have k : P (settleAll env ev).plant := settle_law L h _
  have joins {a : Plant} (j : List JoinReport) (ha : P a) : P { a with joinReports := j } :=
    L.kept (a := a) ⟨fun _ => ⟨rfl, rfl⟩, rfl, rfl⟩ ha
  unfold finishEvent
  dsimp only
  split
  · exact joins _ (he _ k)
  · exact joins _ k

theorem listReport_law : P (listReport env ev).plant := by
  unfold listReport
  dsimp only
  have k : P (if ev.plant.mode = .test ∧ modeAfterReport ev.plant.mode env.alarms.isEmpty = .fire then abortTest ev
      else ev).plant := by
    split
    · exact L.kept (abortTest_unitsKept ev) h
    · exact h
  have k2 := resolveAll_law L (setMode_law L k (modeAfterReport ev.plant.mode env.alarms.isEmpty)) false
  split <;> exact k2

end Laws

/-- The events that reach the resolver or the test unit. -/
theorem ResolverEvent.law {P : Plant → Prop} {s : State} (L : HandLaw s.env P) {g : Env → Ev → Ev}
    (e : ResolverEvent s g) (h : P s.plant) : P (g s.env (.start s.plant)).plant := by
  have same {pl : Plant} (hc : pl.chans = s.plant.chans) (hq : pl.sched = s.plant.sched)
      (hy : pl.supply = s.plant.supply) : P pl := L.kept ⟨fun q => by simp [Plant.chan, hc], hq, hy⟩ h
  have resolved (m : Mode) : P (resolveAll s.env false ((Ev.start s.plant).setMode m)).plant :=
    resolveAll_law L (ev := (Ev.start s.plant).setMode m) (same rfl rfl rfl) false
  cases e with
  | joining =>
    unfold joiningReportTaken
    split
    · exact h
    · exact takeJoinReport_law L (same rfl rfl rfl) _
  | override p v _ =>
    exact resolvePoint_law L (ev := setOverride p v (.start s.plant)) (L.kept (Plant.unitsKept_setChan rfl rfl) h)
      false p
  | allAuto =>
    refine foldl_keeps (P := P) (fun x p hx => settle_law L (resolvePoint_law L hx false p) _) _ ?_
    exact L.kept ((setOverrides_unitsKept _ (.start s.plant)).trans ⟨fun _ => ⟨rfl, rfl⟩, rfl, rfl⟩) h
  | setNormal p a _ =>
    have k : P (s.plant.setChan p { s.plant.chan p with normal := a }) :=
      L.kept (Plant.unitsKept_setChan rfl rfl) h
    unfold Machine.setNormal
    dsimp only
    split
    · exact resolvePoint_law L (by exact k) false p
    · exact k
  | beginTest first count _ _ _ =>
    unfold Machine.beginTest
    exact beginSteps_law L (resolveAll_law L (by exact same rfl rfl rfl) false) _ _
  | haltTest _ =>
    exact resolveAll_law L (setMode_law L (L.kept (abortTest_unitsKept (.start s.plant)) h) _) false
  | commission _ => exact resolved _
  | decommission _ => exact resolved _

end Sys2Proof.Machine
end

section
/-! SUPPORT and the statement about the interlock: every event of the plant keeps it, and so do a completed write, a count
and a device reset. -/

namespace Sys2Proof.Machine

theorem interlocked_handLaw (env : Env) (X Y : Point → Prop) : HandLaw env (Plant.Interlocked env.store X Y) where
  kept k h := h.unitsKept k
  hand p d _ h := handDemand_interlocked h p d

/-- The interlock of R75 with no trip to come. -/
abbrev Plant.InterlockFit (st : Store) (pl : Plant) : Prop := pl.Interlocked st noPoint noPoint

theorem finishEvent_interlocked {env : Env} {ev : Ev} (h : ev.plant.InterlockFit env.store) :
    (finishEvent env ev).plant.InterlockFit env.store :=
  finishEvent_law (interlocked_handLaw env noPoint noPoint) h fun _ k => evaluationWalk_interlocked false _ k

theorem State.runEvent_interlocked {s : State} {g : Env → Ev → Ev}
    (h : (g s.env (.start s.plant)).plant.InterlockFit s.store) : (s.runEvent g).plant.InterlockFit s.store :=
  finishEvent_interlocked (env := s.env) h

/-! ## The fan record's own changes -/

theorem Fan.boundary_same (c : PointCfg) (f : Fan) : (f.boundary c).state = f.state ∧ (f.boundary c).held = f.held := by
  unfold Fan.boundary; split <;> exact ⟨rfl, rfl⟩

/-- What the counters give is energised as before, under the demand held. -/
theorem Fan.windowEnds_same (c : PointCfg) (f : Fan) :
    (f.windowEnds c).state.energised = f.state.energised ∧ (f.windowEnds c).held = f.held := by
  unfold Fan.windowEnds Fan.actOnCounters
  dsimp only
  split <;> rename_i hs
  iterate 3
    · have k : true = f.state.energised := by rw [hs]; rfl
      split
      · exact ⟨k, rfl⟩
      · exact ⟨rfl, rfl⟩
  · exact ⟨rfl, rfl⟩

theorem Fan.afterRunDown_rests (f : Fan) : f.afterRunDown.state.energised = false := by
  unfold Fan.afterRunDown; dsimp only; split <;> rfl

theorem Fan.afterReset_rests (c : PointCfg) (l : Level) : (Fan.afterReset c l).state.energised = false := by
  rw [Fan.afterReset, Fan.norm_state]; dsimp only; split <;> rfl

/-! ## The events at lines and timers -/

section Events
variable {env : Env} {ev : Ev} (h : ev.plant.InterlockFit env.store)
include h

theorem putFan_interlockFit_of_rest (p : Point) {f : Fan} (hf : f.state.energised = false) :
    (putFan env p f ev).plant.InterlockFit env.store :=
  putFan_interlocked_of_rest h hf (fun _ _ x => x) fun _ _ x => x

theorem putDamper_interlockFit {p : Point} {o d : Damper} (ho : ev.plant.damper? p = some o) (hp : d.pos = o.pos) :
    (putDamper env p d ev).plant.InterlockFit env.store := by
  refine putDamper_interlocked h d (fun _ x => x) fun ho' hd => ?_
  obtain ⟨x, hx, k⟩ := Plant.isOpen_iff.mp ho'
  rw [ho] at hx
  cases hx
  exact absurd (hp.trans k) hd

theorem limitFilterTakes_interlocked {p : Point} {i : LimitInput} {d : Damper} (f : Filter)
    (hd : ev.plant.damper? p = some d) : (limitFilterTakes env p i d f ev).plant.InterlockFit env.store := by
  unfold limitFilterTakes
  dsimp only
  split
  · exact putDamper_interlockFit h hd (by cases i <;> rfl)
  · exact moveDamper_interlocked h ..

theorem driveFilterTakes_interlocked {p : Point} {f : Fan} (g : Filter) (hf : ev.plant.fan? p = some f) :
    (driveFilterTakes env p f g ev).plant.InterlockFit env.store := by
  unfold driveFilterTakes
  dsimp only
  split
  · exact putFan_interlockFit_of_rest h p rfl
  · exact putFan_interlocked_of_held h hf rfl id

theorem countEdge_interlocked (p : Point) : (countEdge p ev).plant.InterlockFit env.store := by
  unfold countEdge
  split
  · exact h
  · rename_i f hf
    split
    · exact h.setFan_same hf rfl rfl
    · exact h

theorem setLine_interlocked (p : Point) (i : LimitInput) (level : Level) :
    (ev.setChan p ((ev.plant.chan p).setLine i level)).plant.InterlockFit env.store :=
  h.unitsKept (Plant.unitsKept_setChan (by cases i <;> rfl) (by cases i <;> rfl))

theorem feedbackLine_interlocked (p : Point) (i : LimitInput) (level : Level) :
    (feedbackLine p i level env ev).plant.InterlockFit env.store := by
  have k := setLine_interlocked h p i level
  have unit (u : Equipment) (e : (ev.plant.chan p).unit = u) :
      ((ev.setChan p ((ev.plant.chan p).setLine i level)).plant.chan p).unit = u := by
    rw [Ev.setChan_plant, Plant.chan_setChan_self, ← e]; cases i <;> rfl
  unfold feedbackLine damperLine driveLine
  dsimp only
  split
  · exact h
  · split <;> rename_i hu
    · exact k
    · split
      · exact limitFilterTakes_interlocked k _ (Plant.damper?_eq_some.mpr (unit _ hu))
      · exact k
    · split
      · split
        · exact countEdge_interlocked k p
        · exact k
      · split
        · exact driveFilterTakes_interlocked k _ (Plant.fan?_eq_some.mpr (unit _ hu))
        · exact k

theorem risingEdge_interlocked (p : Point) : (risingEdge p env ev).plant.InterlockFit env.store := by
  unfold risingEdge
  dsimp only
  split
  · exact countEdge_interlocked (setLine_interlocked h p .fba .high) p
  · exact feedbackLine_interlocked h ..

/-- While the supply is not GOOD no fan is energised, so that its state may change. -/
theorem withSupply_interlocked (g : Supply → Supply)
    (hs : ev.plant.supply.state ≠ .good ∨ (g ev.plant.supply).state = ev.plant.supply.state) :
    (ev.withSupply g).plant.InterlockFit env.store := by
  rcases hs with hs | hs
  · exact ⟨h.kinds, h.cmd, fun p f hf he => absurd ((h.supply p f hf he).resolve_left id) hs,
      fun p f hf he => h.path p f hf he⟩
  · exact h.congr (fun _ => rfl) (fun _ => rfl) hs

theorem supplyActivity_interlocked (active : Bool) :
    (supplyActivity env active ev).plant.InterlockFit env.store := by
  unfold supplyActivity
  split <;> rename_i hs
  · have k : (ev.withSupply fun su => { su with state := .failed }).plant.Interlocked env.store noPoint
        fun _ => True :=
      ⟨h.kinds, h.cmd, fun _ _ _ _ => .inl trivial, h.path⟩
    rw [Ev.evaluateIf_plant]
    exact supplyTrip_interlocked k
  · exact withSupply_interlocked h (fun su => { su with state := .failed, settle := .idle })
      (.inl (by rw [hs]; decide))
  · exact withSupply_interlocked h
      (fun su => { su with state := .settling, settle := .load (8 * env.store.device.tSET) })
      (.inl (by rw [hs]; decide))
  · exact h

theorem supplyFilterTakes_interlocked (g : Filter) :
    (supplyFilterTakes env g ev).plant.InterlockFit env.store := by
  have k := withSupply_interlocked h (fun su => { su with filter := g }) (.inr rfl)
  unfold supplyFilterTakes
  dsimp only
  split
  · exact k
  · exact supplyActivity_interlocked k _

theorem settleTimerOut_interlocked : (settleTimerOut env ev).plant.InterlockFit env.store := by
  unfold settleTimerOut
  dsimp only
  split
  · rename_i hs
    exact withSupply_interlocked h (fun su => { su with state := .good, settle := .idle })
      (.inl (by rw [hs.1]; decide))
  · exact h

theorem resetFan_interlocked (p : Point) (f : Fan) : (resetFan p f env ev).plant.InterlockFit env.store := by
  have k := putFan_interlockFit_of_rest h p (f := { f with state := .idle, fault := .none }) rfl
  unfold resetFan
  dsimp only
  split
  · exact putFan_interlockFit_of_rest k p rfl
  · exact k

end Events

theorem PlantEvent.keeps_interlock {s : State} {g : Env → Ev → Ev} (e : PlantEvent s g)
    (h : s.plant.InterlockFit s.store) : (g s.env (.start s.plant)).plant.InterlockFit s.store := by
  have start : (Ev.start s.plant).plant.InterlockFit s.env.store := h
  cases e with
  | limitTimer p i =>
    unfold limitTimerOut
    split
    · exact h
    · rename_i d hd
      split
      · exact limitFilterTakes_interlocked start _ hd
      · exact h
  | strokeTimer p =>
    unfold strokeTimerOut
    split
    · exact h
    · split
      · exact moveDamper_interlocked start ..
      · exact h
  | gateTimer p =>
    unfold gateTimerOut
    split
    · exact h
    · rename_i f hf
      split
      · have k := f.windowEnds_same (s.env.store.point p)
        exact putFan_interlocked_of_held start hf k.2 fun x => k.1.symm.trans x
      · exact h
  | proofLimit p =>
    unfold proofLimitOut
    split
    · exact h
    · split
      · exact putFan_interlockFit_of_rest start p rfl
      · exact h
  | runDownTimer p =>
    unfold runDownTimerOut
    split
    · exact h
    · split
      · unfold runDownEnds
        split
        · exact h
        · split
          · exact putFan_interlockFit_of_rest start p (Fan.afterRunDown_rests _)
          · exact h
      · exact h
  | boundary p =>
    unfold boundaryOut
    split
    · exact h
    · rename_i f hf
      split
      · have k := f.boundary_same (s.env.store.point p)
        exact putFan_interlocked_of_held start hf k.2 fun x => by rwa [k.1] at x
      · exact h
  | driveTimer p =>
    unfold driveTimerOut
    split
    · exact h
    · rename_i f hf
      split
      · exact driveFilterTakes_interlocked start _ hf
      · exact h
  | spacing =>
    unfold spacingOut
    split
    · rw [Ev.evaluateIf_plant]
      exact withSched_interlocked start _
    · exact h
  | supfailTimer =>
    unfold supfailTimerOut
    dsimp only
    split
    · exact supplyFilterTakes_interlocked start _
    · exact h
  | settleTimer => exact settleTimerOut_interlocked start
  | feedback p i level => exact feedbackLine_interlocked start p i level
  | edge p => exact risingEdge_interlocked start p
  | supfail level =>
    unfold supfailLine
    dsimp only
    split
    · exact h
    · exact supplyFilterTakes_interlocked (withSupply_interlocked start (fun su => { su with raw := level }) (.inr rfl)) _
  | clearFault p d hd => exact putDamper_interlockFit start (Plant.damper?_eq_some.mpr hd) rfl
  | resetFan p f _ _ => exact resetFan_interlocked start p f
  | joining => exact ResolverEvent.joining.law (interlocked_handLaw s.env noPoint noPoint) h
  | override p v hv => exact (ResolverEvent.override p v hv).law (interlocked_handLaw s.env noPoint noPoint) h
  | allAuto => exact ResolverEvent.allAuto.law (interlocked_handLaw s.env noPoint noPoint) h
  | setNormal p a ha => exact (ResolverEvent.setNormal p a ha).law (interlocked_handLaw s.env noPoint noPoint) h
  | beginTest first count hm h0 h1 =>
    exact (ResolverEvent.beginTest first count hm h0 h1).law (interlocked_handLaw s.env noPoint noPoint) h
  | haltTest hr => exact (ResolverEvent.haltTest hr).law (interlocked_handLaw s.env noPoint noPoint) h
  | commission hm => exact (ResolverEvent.commission hm).law (interlocked_handLaw s.env noPoint noPoint) h
  | decommission hm => exact (ResolverEvent.decommission hm).law (interlocked_handLaw s.env noPoint noPoint) h

/-! ## A point re-initialised -/

/-- A record after reset asks no CMD. -/
theorem Equipment.afterReset_cmdAsked (c : PointCfg) (ch : Channel) :
    (Equipment.afterReset c ch).cmdAsked c = false := by
  unfold Equipment.afterReset
  split
  · rfl
  · rfl
  · exact Fan.afterReset_rests c _

theorem Equipment.afterReset_rests {c : PointCfg} {ch : Channel} {f : Fan}
    (h : Equipment.afterReset c ch = .fan f) : f.state.energised = false := by
  rw [(Equipment.afterReset_fan h).1]
  exact Fan.afterReset_rests c _

/-- The fans that a re-initialised point leaves to the trip: a damper that was OPEN, or that the point has newly become,
leaves its path fans (R73). -/
def toTrip (st : Store) (p : Point) : Equipment → Equipment → Point → Prop
  | .damper o, .damper _, q => o.pos = .opened ∧ q ∈ st.pathFans p
  | _, .damper _, q => q ∈ st.pathFans p
  | _, _, _ => False

theorem Store.SameBut.pathDampers {st st' : Store} {p q d : Point} (h : st.SameBut p st') (hq : q ≠ p) (hd : d ≠ p) :
    d ∈ st'.pathDampers q ↔ d ∈ st.pathDampers q := by
  simp only [Store.pathDampers, List.mem_filter, Store.kind, h q hq, h d hd]

theorem Store.kind_of_mem_pathDampers {st : Store} {q d : Point} (h : d ∈ st.pathDampers q) : st.kind d = .damper := by
  simpa using (List.mem_filter.mp h).2

/-- The record replaced, before the trip that follows. -/
theorem reinitialised_interlocked {st st' : Store} {p : Point} {pl : Plant} (hst : st.SameBut p st')
    (h : pl.InterlockFit st) :
    (pl.setChan p ((pl.chan p).reinitialised (st'.point p))).Interlocked st'
      (toTrip st' p (pl.chan p).unit (.afterReset (st'.point p) (pl.chan p))) noPoint := by
  let b := pl.setChan p ((pl.chan p).reinitialised (st'.point p))
  have fan {q : Point} {f : Fan} (hf : b.fan? q = some f) (he : f.state.energised = true) :
      q ≠ p ∧ pl.fan? q = some f := by
    have hu := Plant.fan?_eq_some.mp hf
    rw [Plant.chan_setChan] at hu
    split at hu
    · have rests := Equipment.afterReset_rests (c := st'.point p) (ch := pl.chan p) hu
      rw [rests] at he; cases he
    · rename_i e; exact ⟨e, Plant.fan?_eq_some.mpr hu⟩
  refine ⟨fun q => ?_, fun q => ?_, fun q f hf he => h.supply q f (fan hf he).2 he, fun q f hf he => ?_⟩
  · rw [Plant.chan_setChan]
    split
    · rename_i e; subst e; exact Equipment.afterReset_kind ..
    · rename_i e; rw [h.kinds q, Store.kind, Store.kind, hst q e]
  · rw [Plant.chan_setChan]
    split
    · rename_i e; subst e; exact (Equipment.afterReset_cmdAsked ..).symm
    · rename_i e; rw [h.cmd q, hst q e]
  · obtain ⟨hq, hf⟩ := fan hf he
    have kind : st'.kind q = .fan := by
      rw [Store.kind, hst q hq]; exact (h.kinds q).symm.trans (Plant.kind_of_fan? hf)
    rcases (h.path q f hf he).resolve_left id with k | k
    · exact .inr (.inl k)
    · rw [pathOpen_iff] at k
      by_cases hp : p ∈ st'.pathDampers q
      · left
        have damper := Store.kind_of_mem_pathDampers hp
        have fans : q ∈ st'.pathFans p := Store.mem_pathFans.mpr ⟨kind, hp⟩
        have new : Equipment.afterReset (st'.point p) (pl.chan p) =
            .damper (.afterReset (pl.chan p).fba (pl.chan p).fbb) := by
          rw [Store.kind] at damper
          simp [Equipment.afterReset, damper]
        rw [new]
        cases old : (pl.chan p).unit with
        | damper o =>
          refine ⟨?_, fans⟩
          have kp : st.kind p = .damper := by rw [← h.kinds p, old]; rfl
          have mem : p ∈ st.pathDampers q := by
            simp only [Store.pathDampers, List.mem_filter, hst q hq] at hp ⊢
            exact ⟨hp.1, by simp [kp]⟩
          obtain ⟨x, hx, ho⟩ := Plant.isOpen_iff.mp (k p mem)
          rw [Plant.damper?_eq_some, old] at hx
          cases hx
          exact ho
        | unused => exact fans
        | fan _ => exact fans
      · refine .inr (.inr (pathOpen_iff.mpr fun d hd => ?_))
        have ne : d ≠ p := by rintro rfl; exact hp hd
        rw [Plant.isOpen, Plant.damper?_setChan, if_neg ne]
        exact k d ((hst.pathDampers hq ne).mp hd)

/-- The trip that follows leaves none to come. -/
theorem damperSideFollows_interlocked {env : Env} {p : Point} {old new : Equipment} {ev : Ev}
    (h : ev.plant.Interlocked env.store (toTrip env.store p old new) noPoint) :
    (damperSideFollows env p old new ev).plant.InterlockFit env.store := by
  have trip (hX : ∀ q, toTrip env.store p old new q → q ∈ env.store.pathFans p) :
      (tripPathFans env p ev).plant.InterlockFit env.store :=
    tripPathFans_interlocked (h.mono (fun q x => .inr (hX q x)) fun _ x => x)
  have none' (hX : ∀ q, ¬toTrip env.store p old new q) : ev.plant.InterlockFit env.store :=
    h.mono (fun q x => hX q x) fun _ x => x
  cases new with
  | damper d =>
    cases old with
    | damper o =>
      unfold damperSideFollows
      dsimp only
      split
      · exact trip fun q x => x.2
      · rename_i ho
        exact none' fun q x => ho x.1
    | unused => exact trip fun q x => x
    | fan _ => exact trip fun q x => x
  | unused => cases old <;> exact none' fun q x => x
  | fan _ => cases old <;> exact none' fun q x => x

theorem recordReplaced_interlocked {env : Env} {st : Store} {n : Nat} {p : Point} {ev : Ev}
    (hst : st.SameBut p env.store) (h : ev.plant.InterlockFit st) :
    (recordReplaced n p env ev).plant.InterlockFit env.store := by
  let e := (ev.setChan p ((ev.plant.chan p).reinitialised (env.store.point p))).mark p
  have k : (oldFanLeaves n p (ev.plant.chan p).unit e).plant.Interlocked env.store
      (toTrip env.store p (ev.plant.chan p).unit (.afterReset (env.store.point p) (ev.plant.chan p))) noPoint := by
    refine (reinitialised_interlocked hst h).congr (fun q => ?_) (fun q => ?_) ?_
    · rw [oldFanLeaves_chan]; rfl
    · rw [oldFanLeaves_chan]; rfl
    · rw [(oldFanLeaves_frame sequencersOnly_frame n p _ e).2.2.1]; rfl
  unfold recordReplaced
  dsimp only
  split
  · exact releaseWaiting_interlocked (damperSideFollows_interlocked k)
  · exact damperSideFollows_interlocked k

/-! ## A count, and a device reset -/

theorem Channel.tick_cmdAsked (c : PointCfg) (ch : Channel) : ch.tick.unit.cmdAsked c = ch.unit.cmdAsked c := by
  unfold Channel.tick
  cases ch.unit <;> rfl

theorem countPasses_interlocked {s : State} (h : s.plant.InterlockFit s.store) :
    s.countPasses.plant.InterlockFit s.store := by
  have opens : s.countPasses.plant.isOpen = s.plant.isOpen := by
    funext q
    simp only [Plant.isOpen, Plant.damper?, State.countPasses_chan, Channel.damper?, Channel.tick]
    cases (s.plant.chan q).unit <;> rfl
  have fan {p : Point} {f : Fan} (hf : s.countPasses.plant.fan? p = some f) :
      ∃ o, s.plant.fan? p = some o ∧ f = o.tick := by
    rw [State.countPasses_fan?, Option.map_eq_some_iff] at hf
    obtain ⟨o, ho, e⟩ := hf
    exact ⟨o, ho, e.symm⟩
  refine ⟨kindsFit_law.count s h.kinds, fun p => ?_, fun p f hf he => ?_, fun p f hf he => ?_⟩
  · rw [State.countPasses_chan, Channel.tick_cmdAsked, ← h.cmd p]; rfl
  · obtain ⟨o, ho, rfl⟩ := fan hf
    exact h.supply p o ho he
  · obtain ⟨o, ho, rfl⟩ := fan hf
    rw [pathOpen, opens]
    exact h.path p o ho he

theorem blocksReset_interlocked (s : State) : s.blocksReset.plant.InterlockFit s.blocksReset.store := by
  have rests {p : Point} {f : Fan} (hf : s.blocksReset.plant.fan? p = some f) : f.state.energised = false := by
    rw [Plant.fan?_eq_some, State.blocksReset_chan] at hf
    exact Equipment.afterReset_rests hf
  refine ⟨fun p => ?_, fun p => ?_, fun p f hf he => ?_, fun p f hf he => ?_⟩
  · rw [State.blocksReset_chan]; exact Equipment.afterReset_kind ..
  · rw [State.blocksReset_chan]; exact (Equipment.afterReset_cmdAsked ..).symm
  · rw [rests hf] at he; cases he
  · rw [rests hf] at he; cases he

theorem interlock_law : PlantLaw fun st pl => pl.InterlockFit st where
  draws _ h := h.congr (fun _ => rfl) (fun _ => rfl) rfl
  sameKinds {st st' pl} e h := by
    have kind : st'.kind = st.kind := funext fun p => by rw [Store.kind, Store.kind, e p]
    have path (p : Point) : st'.pathDampers p = st.pathDampers p := by rw [Store.pathDampers, Store.pathDampers, e p, kind]
    refine ⟨fun p => (h.kinds p).trans (by rw [kind]), fun p => by rw [h.cmd p, e p], h.supply, fun p f hf he => ?_⟩
    rw [pathOpen, path p]
    exact h.path p f hf he
  count _ h := countPasses_interlocked h
  event _ _ e h := State.runEvent_interlocked (e.keeps_interlock h)
  report s h :=
    State.runEvent_interlocked (listReport_law (interlocked_handLaw s.env noPoint noPoint) (ev := .start s.plant) h)
  limit s v h := by
    refine State.runEvent_interlocked ?_
    unfold Ev.newLimit
    split <;> exact h.congr (fun _ => rfl) (fun _ => rfl) rfl
  reinit s st n p hst h := by
    refine State.runEvent_interlocked ?_
    rw [reinitialise_plant]
    exact resolvePoint_law (interlocked_handLaw s.env noPoint noPoint)
      (recordReplaced_interlocked (env := s.env) (ev := .start s.plant) hst h) true p
  ends s := by
    rw [deviceResetEnds_plant, deviceResetEnds_store]
    exact State.runEvent_interlocked (resolveAll_law (interlocked_handLaw s.blocksReset.env noPoint noPoint)
      (ev := .start s.blocksReset.plant) (blocksReset_interlocked s) true)

/-! ## The statement -/

/-- While device reset is held every CMD is de-energised (R151). -/
def State.CmdsOff (s : State) : Prop := s.held = true → ∀ p, (s.plant.chan p).cmd = false

theorem cmdSound_iff (s : State) :
    s.CmdSound ↔ ∀ p, (s.plant.chan p).cmd = (!s.held && (s.plant.chan p).unit.cmdAsked (s.store.point p)) := by
  refine forall_congr' fun p => ?_
  cases (s.plant.chan p).unit <;> exact Iff.rfl

theorem interlockSound_iff (s : State) :
    (s.KindsSound ∧ s.CmdSound ∧ s.InterlockSound) ↔ (s.held = false → s.plant.InterlockFit s.store) ∧ s.CmdsOff := by
  rw [cmdSound_iff]
  constructor
  · rintro ⟨hk, hc, hl⟩
    refine ⟨fun hh => ⟨hk hh, fun p => ?_, fun p f hf he => .inr (hl hh p f hf he).1,
      fun p f hf he => .inr (hl hh p f hf he).2⟩, fun hh p => ?_⟩
    · rw [hc p, hh]; rfl
    · rw [hc p, hh]; rfl
  · rintro ⟨h, hc⟩
    refine ⟨fun hh => (h hh).kinds, fun p => ?_, fun hh p f hf he =>
      ⟨((h hh).supply p f hf he).resolve_left id, ((h hh).path p f hf he).resolve_left id⟩⟩
    cases hh : s.held with
    | true => exact hc hh p
    | false => rw [(h hh).cmd p]; rfl

theorem Act.keeps_cmdsOff {s t : State} (a : Act s t) (h : s.CmdsOff) : t.CmdsOff := by
  intro ht p
  have hs : s.held = true := a.held_eq ▸ ht
  have k := h hs p
  have not {Q : Prop} (x : s.held = false) : Q := absurd (x.symm.trans hs) (by simp)
  cases a with
  | pending _ => exact k
  | ports _ => exact k
  | draws _ => exact k
  | count x => exact not x
  | event x _ => exact not x
  | zoneLine _ _ x _ _ => exact not x
  | list x _ => exact not x
  | isolate _ x _ => exact not x
  | rejoin _ x _ => exact not x
  | write _ x _ => exact not x
  | writeDone _ x _ => exact not x
  | heldZone _ _ _ => exact k
  | heldFeedback q i level _ =>
    show ((s.plant.setChan q _).chan p).cmd = false
    rw [Plant.chan_setChan]
    split
    · rename_i e; subst e; cases i <;> exact k
    · exact k
  | heldSupfail _ _ => exact k

theorem State.CmdsOff.step {s t : State} (h : s.CmdsOff) (e : step s = .next t) : t.CmdsOff :=
  step_keeps (P := State.CmdsOff) (fun _ _ a k => a.keeps_cmdsOff k)
    (fun s _ x => absurd ((deviceResetEnds_held s).symm.trans x) (by simp))
    (fun s _ _ p => by rw [deviceResetBegins_chan]) h e

/-- Settles O33: a fan is started only under a GOOD supply with its paths open or under override
(`evaluationWalk_interlocked`), and every change that takes one of these away is followed, within the event, by the trip
of the fans it concerns (`tripPathFans_interlocked`, `supplyTrip_interlocked`, `handFan_interlocked`). -/
theorem interlockHolds : Obligations.InterlockHolds := by
  intro s t h e
  rw [interlockSound_iff] at h ⊢
  exact ⟨interlock_law.step_keeps h.1 e, h.2.step e⟩

end Sys2Proof.Machine
end

section
/-! SUPPORT and the statement about the merge. -/

namespace Sys2Proof.Machine

/-! ## The merge (R26, R27) and the forms of an action (R22, R23) -/

theorem firstAssignment_skip {st : Store} {p : Point} {a l : List AlarmEntry} (h : ∀ y ∈ a, st.entry y.zone p = none) :
    firstAssignment st p (a ++ l) = firstAssignment st p l := by
  induction a with
  | nil => rfl
  | cons e es ih =>
    rw [List.cons_append, firstAssignment, h e List.mem_cons_self]
    exact ih fun y hy => h y (List.mem_cons_of_mem _ hy)

theorem firstAssignment_none {st : Store} {p : Point} {l : List AlarmEntry} (h : ∀ y ∈ l, st.entry y.zone p = none) :
    firstAssignment st p l = none := by
  rw [← List.append_nil l, firstAssignment_skip h, firstAssignment]

theorem firstAssignment_first {st : Store} {p : Point} {a b : List AlarmEntry} {e : AlarmEntry} {x : Action}
    (ha : ∀ y ∈ a, st.entry y.zone p = none) (he : st.entry e.zone p = some x) :
    firstAssignment st p (a ++ e :: b) = some (e.zone, x) := by
  rw [firstAssignment_skip ha, firstAssignment, he]

/-- The active action by kind (R29, Table 2-3). -/
theorem activeAction_eq (c : PointCfg) :
    activeAction c = if c.kind = .fan then .run (max c.nOVS c.nMIN) else .toOpen := by
  unfold activeAction Action.inForm
  cases c.kind <;> rfl

/-- The rest action by kind (Table 2-3). -/
theorem restAction_eq (c : PointCfg) : restAction c = if c.kind = .fan then .stop else .toClose := by
  unfold restAction Action.inForm
  cases c.kind <;> rfl

theorem unassignedAction_eq (c : PointCfg) (normal : Action) :
    unassignedAction c normal =
      match c.unassigned, c.kind with
      | .normal, _ => normal.inForm c
      | .active, .fan => .run (max c.nOVS c.nMIN)
      | .active, _ => .toOpen
      | .rest, .fan => .stop
      | .rest, _ => .toClose := by
  unfold unassignedAction
  rw [activeAction_eq, restAction_eq]
  cases c.unassigned <;> cases c.kind <;> rfl

/-- Read across to a FAN, a RUN raised to nMIN (Table 2-2, R23). -/
theorem Action.inForm_fan {c : PointCfg} (h : c.kind = .fan) (a : Action) :
    a.inForm c =
      match a with
      | .toOpen => .run (max 100 c.nMIN)
      | .toClose | .stop => .stop
      | .run n => .run (max n c.nMIN) := by
  cases a <;> simp [Action.inForm, Action.raised, h]

/-- Read across to a DAMPER (Table 2-2). -/
theorem Action.inForm_damper {c : PointCfg} (h : c.kind = .damper) (a : Action) :
    a.inForm c =
      match a with
      | .toOpen | .run _ => .toOpen
      | .toClose | .stop => .toClose := by
  cases a <;> simp [Action.inForm, h]

/-- Settles O11: the merge passes over the zones that do not assign the point (`firstAssignment_skip`), and an action is
put into form by kind (`Action.inForm_fan`, `Action.inForm_damper`). -/
theorem mergeAndReadAcross : Obligations.MergeAndReadAcross := by
  refine ⟨fun st l p normal => ⟨fun a b e x hl ha he => ?_, fun h => ?_⟩, fun c n hn => ⟨fun h => ?_, fun h => ?_⟩⟩
  · subst hl
    unfold fireDemand
    dsimp only
    rw [firstAssignment_first ha he]
  · have e : fireDemand { store := st, alarms := l } p normal =
        { action := unassignedAction (st.point p) normal, source := .unassigned, fireZone := none } := by
      unfold fireDemand
      dsimp only
      rw [firstAssignment_none h]
    exact e.trans (congrArg (fun a => ({ action := a, source := .unassigned, fireZone := none } : Demand))
      (unassignedAction_eq ..))
  · have full : max 100 c.nMIN = 100 := by omega
    have raised : max n c.nMIN = if n < c.nMIN then c.nMIN else n := by split <;> omega
    simp only [Action.inForm_fan h, full, raised, and_self]
  · simp only [Action.inForm_damper h, and_self]

end Sys2Proof.Machine
end

section
/-! SUPPORT. The demand of one point through an event (`Upd.resolved_cases`, `Upd.keeps_demand`), the mode and the entries
that an event leaves, and an order that runs one event of the plant (`exec_event`). -/

namespace Sys2Proof.Machine

/-! ## What an update makes of a point's demand -/

section Demand
variable {env : Env} {Q : Prop} {a b : Ev} {p : Point}

/-- An update leaves the demand of a FAN or DAMPER point, or gives it the demand of R35. -/
theorem Upd.resolved_cases (hk : env.store.kind p ≠ .unused) (u : Upd env Q a b) :
    (b.plant.chan p).resolved = (a.plant.chan p).resolved ∨
      (b.plant.chan p).resolved = some (resolution env a.plant.mode p (a.plant.chan p)) := by
  cases u with
  | seq u =>
    obtain ⟨-, -, -, -, -, hc⟩ := u.sequencersOnly
    exact .inl (by rw [hc p])
  | res u =>
    cases u with
    | book hp _ _ => exact .inl (by rw [hp]; rfl)
    | lastFire q _ _ => exact .inl (Plant.resolved_setChan (by rfl) p)
    | noDemand q hq =>
      left
      rw [Ev.setChan_plant, Plant.chan_setChan]
      split
      · rename_i e; subst e; exact absurd hq hk
      · rfl
    | demand q hq =>
      by_cases e : p = q
      · subst e
        exact .inr (by rw [Ev.mark_plant, Ev.setChan_plant, Plant.chan_setChan_self])
      · exact .inl (by rw [Ev.mark_plant, Ev.setChan_plant, Plant.chan_setChan_ne _ _ e])
    | testDemand q x _ => exact .inl (Plant.resolved_setChan (by rfl) p)
    | _ => exact .inl rfl

/-- A condition that every update keeps, and that every demand of R35 under it meets `D`: a point that meets both goes
on doing so. -/
theorem Upd.keeps_demand {K : Plant → Prop} {D : Option Demand → Prop} (hk : env.store.kind p ≠ .unused)
    (hK : ∀ a b, Upd env Q a b → K a.plant → K b.plant)
    (hD : ∀ pl, K pl → D (some (resolution env pl.mode p (pl.chan p)))) (u : Upd env Q a b)
    (h : K a.plant ∧ D (a.plant.chan p).resolved) : K b.plant ∧ D (b.plant.chan p).resolved := by
  refine ⟨hK _ _ u h.1, ?_⟩
  rcases u.resolved_cases hk with e | e <;> rw [e]
  · exact h.2
  · exact hD _ h.1

/-- An update leaves the lines, the override entries, the normal-demand entries and the kinds of the records. -/
theorem Upd.entriesKept (u : Upd env Q a b) : a.plant.EntriesKept b.plant := by
  cases u with
  | seq u => exact u.frame entriesKept_frame.toSeqFrame
  | res u =>
    cases u with
    | book hp _ _ => rw [hp]; exact entriesKept_frame.refl _
    | lastFire q _ _ => exact entriesKept_frame.demands a.plant q _ _ _
    | noDemand q _ => exact entriesKept_frame.demands a.plant q _ _ _
    | demand q _ => exact entriesKept_frame.demands a.plant q _ _ _
    | testDemand q x _ => exact entriesKept_frame.demands a.plant q _ _ _
    | _ => exact entriesKept_frame.refl _

theorem Upd.override_eq (u : Upd env Q a b) (p : Point) :
    (b.plant.chan p).override = (a.plant.chan p).override := (u.entriesKept p).2.2.1

theorem Upd.normal_eq (u : Upd env Q a b) (p : Point) :
    (b.plant.chan p).normal = (a.plant.chan p).normal := (u.entriesKept p).2.2.2.1

/-- A mode other than RESTORE, with no test running. -/
def Plant.Steady (m : Mode) (pl : Plant) : Prop := pl.mode = m ∧ pl.test.state ≠ .running

/-- It stays: only a test that is done and a restore that completes change the mode within an event. -/
theorem Upd.keeps_steady {m : Mode} (hm : m ≠ .restore) (u : Upd env Q a b) (h : a.plant.Steady m) :
    b.plant.Steady m := by
  cases u with
  | seq u =>
    obtain ⟨e, t, -⟩ := u.sequencersOnly
    exact ⟨e.trans h.1, by rw [t]; exact h.2⟩
  | res u =>
    cases u with
    | book hp _ _ => rw [hp]; exact h
    | test g hr _ => exact absurd hr h.2
    | testDone hr => exact absurd hr h.2
    | restored hr => exact absurd (h.1.symm.trans hr) hm
    | _ => exact h

end Demand

/-! ## A point's demand once it is resolved -/

/-- The point holds the demand of R35 (R24). -/
def Plant.HoldsDemand (env : Env) (p : Point) (pl : Plant) : Prop :=
  (pl.chan p).resolved = some (resolution env pl.mode p (pl.chan p))

/-- The demand that a resolved channel's resolver's side gives. -/
theorem Plant.holdsDemand_of_side {env : Env} {p : Point} {pl : Plant} {c : Channel}
    (h : (pl.chan p).resolverSide = c.resolverSide.resolvedAt env pl.mode p) : pl.HoldsDemand env p := by
  have hr := congrArg Channel.resolved h
  have same : resolution env pl.mode p (c.resolverSide.resolvedAt env pl.mode p) =
      resolution env pl.mode p (pl.chan p) := by rw [← h]; rfl
  exact hr.trans ((Channel.resolvedAt_resolved ..).trans (congrArg some same))

theorem resolvePoint_holdsDemand {env : Env} {p : Point} (hk : env.store.kind p ≠ .unused) (b : Bool) (ev : Ev) :
    (resolvePoint env b ev p).plant.HoldsDemand env p := by
  have h := resolvePoint_resolverSide hk b ev p
  rw [if_pos rfl, ← resolvePoint_mode env b ev p] at h
  exact Plant.holdsDemand_of_side h

theorem resolveAll_holdsDemand {env : Env} {p : Point} (hk : env.store.kind p ≠ .unused) (b : Bool) (ev : Ev) :
    (resolveAll env b ev).plant.HoldsDemand env p := by
  have h := resolveAll_resolverSide env b ev p
  rw [if_neg hk, ← resolveAll_mode env b ev] at h
  exact Plant.holdsDemand_of_side h

section Event
variable {s : State} {g : Env → Ev → Ev} {p : Point} {K : Plant → Prop} {D : Option Demand → Prop}

/-- What a point's demand is once the event's first part has resolved it. -/
theorem State.runEvent_demand (hk : s.store.kind p ≠ .unused)
    (hK : ∀ a b, Upd s.env False a b → K a.plant → K b.plant)
    (hD : ∀ pl, K pl → D (some (resolution s.env pl.mode p (pl.chan p))))
    (h : K (g s.env (.start s.plant)).plant) (hr : (g s.env (.start s.plant)).plant.HoldsDemand s.env p) :
    K (s.runEvent g).plant ∧ D ((s.runEvent g).plant.chan p).resolved :=
  State.runEvent_keeps (P := fun pl => K pl ∧ D (pl.chan p).resolved)
    (fun _ _ u k => u.keeps_demand (env := s.env) hk hK hD k) ⟨h, by rw [hr]; exact hD _ h⟩

end Event

/-! ## An order that runs one event -/

theorem exec_event {k : OrderKind} {i : PortId} {b1 b2 b3 : Byte} {s : State} {g : Env → Ev → Ev}
    (h : s.PortAtRest i) (ha : portAllowed k i = true)
    (hd : runOrder k i ⟨k.code, b1, b2, b3⟩ (s.taking i ⟨k.code, b1, b2, b3⟩) =
      done ⟨k.code, b1, b2, b3⟩ ((s.taking i ⟨k.code, b1, b2, b3⟩).runEvent g))
    (hm : (Ev.start s.plant).DemandsTold s.env (g s.env (.start s.plant))) :
    ∃ t, exec (orderCommand k i b1 b2 b3) s = .next t ∧ s.Answered t i .done b1 b2 b3 ∧ s.OutsidePlant t ∧
      s.DemandsMarked t ∧ t.plant = (s.runEvent g).plant := by
  let o : Order := ⟨k.code, b1, b2, b3⟩
  have marked : (s.taking i o).DemandsMarked ((s.taking i o).runEvent g) := State.runEvent_demandsMarked hm
  refine ⟨_, exec_done h ha hd, State.replied_answered (o := o) h (State.runEvent_portsMarked g _),
    ⟨rfl, rfl, rfl, rfl, rfl, rfl, rfl, rfl⟩, fun p hk hne j => ?_, rfl⟩
  rw [State.replied_points]
  exact marked p hk hne j

/-- After a change of entries alone, every demand that changes is told. -/
theorem Ev.demandsTold_of_moves {env : Env} {a b c : Ev} (hm : a.marks ⊆ b.marks)
    (h : ∀ p, (b.plant.chan p).resolved = (a.plant.chan p).resolved) (m : Moves env False b c) :
    a.DemandsTold env c := (Ev.demandsTold_of_same hm h).trans m.demandsTold

end Sys2Proof.Machine
end

section
/-! SUPPORT and the statements about OVRD, OVAL, NDEM, CMEN and CMLV. -/

namespace Sys2Proof.Machine

/-! ## OVRD (R30) -/

/-- The event of an OVRD that changes the entry. -/
def overrideEvent (p : Point) (v : Override) (env : Env) (ev : Ev) : Ev :=
  resolvePoint env false (setOverride p v ev) p

theorem setOverride_chan (p q : Point) (v : Override) (ev : Ev) :
    (setOverride p v ev).plant.chan q =
      if q = p then { ev.plant.chan q with override := v } else ev.plant.chan q := by
  rw [setOverride, Ev.setChan_plant, Plant.chan_setChan]
  split
  · rename_i e; subst e; rfl
  · rfl

theorem setOverride_resolved (p q : Point) (v : Override) (ev : Ev) :
    ((setOverride p v ev).plant.chan q).resolved = (ev.plant.chan q).resolved := by
  rw [setOverride_chan]; split <;> rfl

/-- The demand of an ON or OFF entry, whatever the mode (R29, R35). -/
theorem resolution_of_override {env : Env} {p : Point} {ch : Channel} {d : Demand} (m : Mode)
    (h : overrideDemand (env.store.point p) ch.override = some d) : resolution env m p ch = d := by
  rw [resolution, h]; rfl

theorem resolution_of_auto {env : Env} {p : Point} {ch : Channel} (m : Mode) (h : ch.override = .auto) :
    resolution env m p ch = modeDemand env m p ch := by
  rw [resolution, h]; rfl

section Override
variable (s : State) (p : Point) (v : Override)

/-- An override event leaves every entry but the one it sets. -/
theorem overrideEvent_entries {pl : Plant} (h : pl = (s.runEvent (overrideEvent p v)).plant) (q : Point) :
    (pl.chan q).override = (if q = p then v else (s.plant.chan q).override) ∧
      (pl.chan q).normal = (s.plant.chan q).normal ∧ (pl.chan q).fba = (s.plant.chan q).fba ∧
      (pl.chan q).fbb = (s.plant.chan q).fbb := by
  subst h
  obtain ⟨ha, hb, ho, hn, -⟩ := (entriesKept_frame.trans
    (resolvePoint_frame entriesKept_frame s.env false (setOverride p v (.start s.plant)) p)
    (finishEvent_frame entriesKept_frame s.env _) :
      (setOverride p v (.start s.plant)).plant.EntriesKept (s.runEvent (overrideEvent p v)).plant) q
  rw [setOverride_chan] at ha hb ho hn
  split at ha <;> rename_i e
  · rw [if_pos e] at hb ho hn ⊢
    exact ⟨ho, hn, ha, hb⟩
  · rw [if_neg e] at hb ho hn ⊢
    exact ⟨ho, hn, ha, hb⟩

theorem overrideEvent_demandsTold :
    (Ev.start s.plant).DemandsTold s.env (overrideEvent p v s.env (.start s.plant)) :=
  Ev.demandsTold_of_moves (b := setOverride p v (.start s.plant)) (fun _ h => h)
    (fun q => setOverride_resolved p q v (.start s.plant)) (resolvePoint_moves s.env False false _ p)

/-- The demand of the point is of R35 under the new entry, to the end of the event. -/
theorem overrideEvent_demand {D : Option Demand → Prop} (hk : s.store.kind p ≠ .unused)
    (hD : ∀ (m : Mode) (ch : Channel), ch.override = v → D (some (resolution s.env m p ch))) :
    D ((s.runEvent (overrideEvent p v)).plant.chan p).resolved := by
  refine (State.runEvent_demand (K := fun pl => (pl.chan p).override = v) hk
    (fun _ _ u h => (u.override_eq p).trans h) (fun pl h => hD pl.mode (pl.chan p) h) ?_
    (resolvePoint_holdsDemand (env := s.env) hk false _)).2
  have k := resolvePoint_frame entriesKept_frame s.env false (setOverride p v (.start s.plant)) p p
  exact k.2.2.1.trans (by rw [setOverride_chan, if_pos rfl])

end Override

/-- Settles O12: the point's resolution gives the demand of the new entry, and every later resolution of it in the event
does (`overrideEvent_demand`). -/
theorem ovrdSetsOverride : Obligations.OvrdSetsOverride := by
  intro s p v b3 h
  let o : Order := ⟨OrderKind.ovrd.code, byte p.val, byte v.code, b3⟩
  have run : runOrder .ovrd .f o (s.taking .f o) =
      if v ≠ .auto ∧ s.store.kind p = .unused then refuse .state o (s.taking .f o)
      else if (s.plant.chan p).override = v then done o (s.taking .f o)
      else done o ((s.taking .f o).runEvent (overrideEvent p v)) := by
    show orderOvrd .f o (s.taking .f o) = _
    unfold orderOvrd
    simp only [o, pointOf_byte, overrideOf_byte]
    rfl
  refine ⟨fun hv hk => ?_, fun hv ho => ?_, fun hk ho => ?_⟩
  · exact exec_refused (k := .ovrd) h rfl (run.trans (if_pos ⟨hv, hk⟩))
  · refine exec_refused (k := .ovrd) (c := .done) h rfl (run.trans ?_)
    rw [if_neg fun x => hv.elim x.1 fun y => y x.2, if_pos ho]
    rfl
  · obtain ⟨t, e, hans, hout, hmarked, ht⟩ := exec_event (k := .ovrd) h rfl
      (run.trans (by rw [if_neg fun x => hk x.2, if_neg ho])) (overrideEvent_demandsTold s p v)
    have entries := overrideEvent_entries s p v ht
    refine ⟨t, e, hans, hout, hmarked, (entries p).1.trans (if_pos rfl),
      fun q hq => (entries q).1.trans (if_neg hq), fun q => (entries q).2, ?_⟩
    rw [ht]
    cases v with
    | auto =>
      refine overrideEvent_demand s p .auto (D := fun d => d.map Demand.source ≠ some .override) hk fun m ch hc => ?_
      rw [Option.map_some, ne_eq, Option.some_inj, resolution_source, hc]
      exact fun x => x rfl
    | on =>
      refine overrideEvent_demand s p .on (D := (· = _)) hk fun m ch hc => congrArg some ?_
      refine resolution_of_override m ?_
      rw [hc, overrideDemand, activeAction_eq]
      rfl
    | off =>
      refine overrideEvent_demand s p .off (D := (· = _)) hk fun m ch hc => congrArg some ?_
      refine resolution_of_override m ?_
      rw [hc, overrideDemand, restAction_eq]
      rfl

/-! ## OVAL (R31) -/

/-- Every entry AUTO. -/
theorem setOverrides_released (ev : Ev) (q : Point) :
    (((allPoints.filter fun p => (ev.plant.chan p).override != .auto).foldl (fun ev p => setOverride p .auto ev)
      ev).plant.chan q) = { ev.plant.chan q with override := .auto } := by
  rw [setOverrides_chan]
  split
  · rfl
  · rename_i h
    have ho : (ev.plant.chan q).override = .auto := by simpa [allPoints] using h
    rw [← ho]

theorem foldl_resolveReleased_moves (env : Env) (l : List Point) (ev : Ev) :
    Moves env False ev (l.foldl (resolveReleased env) ev) := foldl_moves _ (resolveReleased_moves env False) _ _

/-- The entry of the point is AUTO, and its demand has another source than OVERRIDE. -/
def Plant.Released (p : Point) (pl : Plant) : Prop :=
  (pl.chan p).override = .auto ∧ (pl.chan p).resolved.map Demand.source ≠ some .override

theorem Upd.keeps_released {env : Env} {p : Point} (hk : env.store.kind p ≠ .unused) {Q : Prop} {a b : Ev}
    (u : Upd env Q a b) (h : a.plant.Released p) : b.plant.Released p :=
  u.keeps_demand (K := fun pl => (pl.chan p).override = .auto) (D := fun d => d.map Demand.source ≠ some .override) hk
    (fun _ _ u h => (u.override_eq p).trans h)
    (fun pl h => by rw [Option.map_some, ne_eq, Option.some_inj, resolution_source, h]; exact fun x => x rfl) h

/-- A point whose entry is AUTO is released by its resolution among those of others. -/
theorem foldl_resolveReleased_released {env : Env} {p : Point} (hk : env.store.kind p ≠ .unused) {l : List Point}
    (hp : p ∈ l) {ev : Ev} (h : (ev.plant.chan p).override = .auto) :
    (l.foldl (resolveReleased env) ev).plant.Released p := by
  obtain ⟨a, b, rfl⟩ := List.append_of_mem hp
  rw [List.foldl_append, List.foldl_cons]
  have before := (foldl_resolveReleased_moves env a ev).keeps (P := fun x => (x.plant.chan p).override = .auto)
    (fun _ _ u k => (u.override_eq p).trans k) h
  generalize a.foldl (resolveReleased env) ev = x at before
  refine (foldl_resolveReleased_moves env b _).keeps (P := fun x => x.plant.Released p)
    (fun _ _ u k => u.keeps_released hk k) ?_
  refine (settleAll_moves env False _).keeps (P := fun x => x.plant.Released p)
    (fun _ _ u k => u.keeps_released hk k) ?_
  have auto : ((resolvePoint env false x p).plant.chan p).override = .auto :=
    (resolvePoint_frame entriesKept_frame env false x p p).2.2.1.trans before
  have holds := resolvePoint_holdsDemand hk false x
  rw [Plant.HoldsDemand] at holds
  refine ⟨auto, ?_⟩
  rw [holds, Option.map_some, ne_eq, Option.some_inj, resolution_source, auto]
  exact fun y => y rfl

/-- Settles O13: every entry is set to AUTO, and a released point's resolution gives a demand of another source than
OVERRIDE, which every later resolution of it does (`foldl_resolveReleased_released`). -/
theorem ovalReleasesAll : Obligations.OvalReleasesAll := by
  intro s b1 b2 b3 h
  let ps := allPoints.filter fun p => (s.plant.chan p).override != .auto
  let ev := (ps.foldl (fun ev p => setOverride p .auto ev) (.start s.plant)).draw
  have chan (q : Point) : ev.plant.chan q = { s.plant.chan q with override := .auto } :=
    setOverrides_released (.start s.plant) q
  have all : allOverridesAuto s.env (.start s.plant) =
      (inFreeOrder s.plant.draws ps).foldl (resolveReleased s.env) ev := rfl
  have marks : ev.marks = [] := by
    obtain ⟨v, e⟩ := setOverrides_eq ps (.start s.plant)
    show (ps.foldl (fun ev p => setOverride p .auto ev) (.start s.plant)).draw.marks = []
    rw [e]
    rfl
  obtain ⟨t, e, hans, hout, hmarked, ht⟩ := exec_event (k := .oval) (b1 := b1) (b2 := b2) (b3 := b3)
    (g := allOverridesAuto) h rfl rfl (by
      rw [all]
      refine Ev.demandsTold_of_moves (b := ev) (fun _ x => absurd x List.not_mem_nil) (fun q => by rw [chan]; rfl)
        (foldl_resolveReleased_moves s.env _ ev))
  refine ⟨t, e, hans, hout, hmarked, fun p => ?_⟩
  rw [ht]
  have moves : Moves s.env False ev (finishEvent s.env (allOverridesAuto s.env (.start s.plant))) := by
    rw [all]
    exact Relation.ReflTransGen.trans (foldl_resolveReleased_moves s.env _ ev)
      (finishEvent_moves s.env False _ False.elim)
  obtain ⟨ha, hb, ho, hn, -⟩ := moves.keeps (P := fun x => ev.plant.EntriesKept x.plant)
    (fun _ _ u k => entriesKept_frame.trans k u.entriesKept) (entriesKept_frame.refl _) p
  rw [chan] at ha hb ho hn
  refine ⟨ho, fun hp hk => ?_, hn, ha, hb⟩
  have released : (allOverridesAuto s.env (.start s.plant)).plant.Released p := by
    rw [all]
    refine foldl_resolveReleased_released (env := s.env) hk ((inFreeOrder_perm _ _).mem_iff.mpr ?_) (by rw [chan])
    simp [ps, allPoints, hp]
  exact (State.runEvent_keeps (P := Plant.Released p) (fun _ _ u k => u.keeps_released (env := s.env) hk k) released).2

/-! ## NDEM (R33, R34) -/

theorem setNormal_entry (s : State) (p : Point) (a : Action) :
    ∃ b : Bool, setNormal p a s.env (.start s.plant) =
      let ev := (Ev.start s.plant).setChan p { s.plant.chan p with normal := a }
      if b then resolvePoint s.env false ev p else ev := ⟨_, rfl⟩

/-- Settles O14: a changed entry is put in its place, and in NORMAL the point's resolution and every later one of the
event give the entry put into form; in RESTORE nothing else happens. -/
theorem ndemStoresEntry : Obligations.NdemStoresEntry := by
  intro s p x b3 h
  let o : Order := ⟨OrderKind.ndem.code, byte p.val, x, b3⟩
  refine ⟨fun hx => ?_, fun a ha => ?_⟩
  · refine exec_refused (k := .ndem) h rfl ?_
    show orderNdem .b o (s.taking .b o) = _
    unfold orderNdem
    subst hx
    simp only [o, pointOf_byte]
    rfl
  have run : runOrder .ndem .b o (s.taking .b o) =
      if s.plant.mode = .commission then refuse .mode o (s.taking .b o)
      else if (s.plant.chan p).normal = a then done o (s.taking .b o)
      else done o ((s.taking .b o).runEvent (setNormal p a)) := by
    show orderNdem .b o (s.taking .b o) = _
    unfold orderNdem
    simp only [o, pointOf_byte, ha]
    rfl
  refine ⟨fun hm => exec_refused (k := .ndem) h rfl (run.trans (if_pos hm)), fun hm => ?_⟩
  by_cases hn : (s.plant.chan p).normal = a
  · have e := exec_refused (k := .ndem) (c := .done) h rfl (run.trans (by rw [if_neg hm, if_pos hn]; rfl))
    exact ⟨_, e, fun j => PortRec.marked_refl _, ⟨rfl, rfl, rfl, rfl, rfl, rfl, rfl, rfl⟩,
      fun q _ hq => absurd rfl hq, hn, fun _ _ => rfl, fun _ => ⟨rfl, rfl, rfl⟩,
      fun _ _ _ _ hne => absurd hn hne, fun _ => ⟨rfl, fun _ => rfl⟩⟩
  · let ev := (Ev.start s.plant).setChan p { s.plant.chan p with normal := a }
    have chan (q : Point) : ev.plant.chan q =
        if q = p then { s.plant.chan p with normal := a } else s.plant.chan q := Plant.chan_setChan ..
    have moves : Moves s.env False ev (setNormal p a s.env (.start s.plant)) := by
      obtain ⟨b, e⟩ := setNormal_entry s p a
      rw [e]
      dsimp only
      split
      · exact resolvePoint_moves s.env False false ev p
      · exact .refl
    obtain ⟨t, e, hans, hout, hmarked, ht⟩ := exec_event (k := .ndem) h rfl
      (run.trans (by rw [if_neg hm, if_neg hn]))
      (Ev.demandsTold_of_moves (b := ev) (fun _ y => y) (fun q => by
        rw [chan]; split
        · rename_i e; subst e; rfl
        · rfl) moves)
    have entries : ev.plant.EntriesKept t.plant := by
      rw [ht]
      exact State.runEvent_keeps (P := fun pl => ev.plant.EntriesKept pl)
        (fun _ _ u k => entriesKept_frame.trans k u.entriesKept)
        (moves.keeps (P := fun y => ev.plant.EntriesKept y.plant)
          (fun _ _ u k => entriesKept_frame.trans k u.entriesKept) (entriesKept_frame.refl _))
    refine ⟨t, e, hans, hout, hmarked, ?_, fun q hq => ?_, fun q => ?_, fun hmode htest hk ho _ => ?_, fun hmode => ?_⟩
    · obtain ⟨-, -, -, n, -⟩ := entries p
      rw [n, chan, if_pos rfl]
    · obtain ⟨-, -, -, n, -⟩ := entries q
      rw [n, chan, if_neg hq]
    · obtain ⟨fa, fb, ov, -, -⟩ := entries q
      rw [chan] at fa fb ov
      split at fa <;> rename_i e
      · subst e
        rw [if_pos rfl] at fb ov
        exact ⟨ov, fa, fb⟩
      · rw [if_neg e] at fb ov
        exact ⟨ov, fa, fb⟩
    · have drawn : drawnFromTable s.env ev.plant p = true := by
        have auto : (ev.plant.chan p).override = .auto := by rw [chan, if_pos rfl]; exact ho
        have mode : ev.plant.mode = .normal := hmode
        simp [drawnFromTable, auto, mode]
      have event : setNormal p a s.env (.start s.plant) = resolvePoint s.env false ev p := by
        show (if drawnFromTable s.env ev.plant p then resolvePoint s.env false ev p else ev) = _
        rw [if_pos drawn]
      rw [ht]
      refine (State.runEvent_demand
        (K := fun pl => pl.Steady .normal ∧ (pl.chan p).override = .auto ∧ (pl.chan p).normal = a)
        (D := (· = _)) hk
        (fun _ _ u k => ⟨u.keeps_steady (by decide) k.1, (u.override_eq p).trans k.2.1, (u.normal_eq p).trans k.2.2⟩)
        (fun pl k => ?_) ?_ (by rw [event]; exact resolvePoint_holdsDemand (env := s.env) hk false _)).2
      · obtain ⟨⟨hm', -⟩, ho', hn'⟩ := k
        rw [resolution_of_auto _ ho', hm']
        show some (normalDemand _ _) = _
        rw [normalDemand, hn']
        rfl
      · refine moves.keeps (P := fun y => y.plant.Steady .normal ∧ (y.plant.chan p).override = .auto ∧
          (y.plant.chan p).normal = a)
          (fun _ _ u k => ⟨u.keeps_steady (by decide) k.1, (u.override_eq p).trans k.2.1, (u.normal_eq p).trans k.2.2⟩)
          ⟨⟨hmode, htest⟩, ?_, ?_⟩ <;> rw [chan, if_pos rfl]
        exact ho
    · have quiet : s.runEvent (setNormal p a) =
          { s with plant := s.plant.setChan p { s.plant.chan p with normal := a } } := by
        refine State.runEvent_quiet ?_
        have off : drawnFromTable s.env ev.plant p = false := by
          have mode : ev.plant.mode = .restore := hmode
          simp [drawnFromTable, mode]
        show (if drawnFromTable s.env ev.plant p then resolvePoint s.env false ev p else ev) = _
        rw [if_neg (by rw [off]; decide)]
        rfl
      rw [ht, quiet]
      exact ⟨rfl, fun q => Plant.resolved_setChan (by rfl) q⟩

/-! ## CMEN and CMLV (R47) -/

/-- The event of a change between NORMAL and COMMISSION: the mode, no entry, and every demand told. -/
theorem modeEvent {s : State} {m : Mode} (hm : m ≠ .restore) (ht : s.NoTest) :
    let g : Env → Ev → Ev := fun env ev => resolveAll env false (ev.setMode m)
    (Ev.start s.plant).DemandsTold s.env (g s.env (.start s.plant)) ∧ (s.runEvent g).plant.mode = m ∧
      s.plant.EntriesKept (s.runEvent g).plant := by
  have moves := resolveAll_moves s.env False false ((Ev.start s.plant).setMode m)
  refine ⟨Ev.demandsTold_of_moves (b := (Ev.start s.plant).setMode m) (fun _ x => x) (fun _ => rfl) moves, ?_, ?_⟩
  · exact (State.runEvent_keeps (P := Plant.Steady m) (fun _ _ u k => u.keeps_steady hm k)
      (moves.keeps (P := fun x => x.plant.Steady m) (fun _ _ u k => u.keeps_steady hm k) ⟨rfl, ht⟩)).1
  · exact runEvent_frame entriesKept_frame _ s
      (entriesKept_frame.trans (setMode_frame entriesKept_frame m (.start s.plant))
        (resolveAll_frame entriesKept_frame s.env false _))

/-- Settles O17: with no test running the mode that the order sets stays to the end of the event (`modeEvent`). -/
theorem commissionEntered : Obligations.CommissionEntered := by
  intro s b1 b2 b3 h
  have enters : runOrder .cmen .b ⟨OrderKind.cmen.code, b1, b2, b3⟩ (s.taking .b ⟨OrderKind.cmen.code, b1, b2, b3⟩) =
      if s.plant.mode = .normal then
        done ⟨OrderKind.cmen.code, b1, b2, b3⟩ ((s.taking .b ⟨OrderKind.cmen.code, b1, b2, b3⟩).runEvent
          fun env ev => resolveAll env false (ev.setMode .commission))
      else refuse .mode ⟨OrderKind.cmen.code, b1, b2, b3⟩ (s.taking .b ⟨OrderKind.cmen.code, b1, b2, b3⟩) := rfl
  have leaves : runOrder .cmlv .b ⟨OrderKind.cmlv.code, b1, b2, b3⟩ (s.taking .b ⟨OrderKind.cmlv.code, b1, b2, b3⟩) =
      if s.plant.mode = .commission then
        done ⟨OrderKind.cmlv.code, b1, b2, b3⟩ ((s.taking .b ⟨OrderKind.cmlv.code, b1, b2, b3⟩).runEvent
          fun env ev => resolveAll env false (ev.setMode .normal))
      else refuse .mode ⟨OrderKind.cmlv.code, b1, b2, b3⟩ (s.taking .b ⟨OrderKind.cmlv.code, b1, b2, b3⟩) := rfl
  refine ⟨fun hm => exec_refused (k := .cmen) h rfl (enters.trans (if_neg hm)),
    fun hm => exec_refused (k := .cmlv) h rfl (leaves.trans (if_neg hm)), fun hm ht => ?_, fun hm ht => ?_⟩
  · obtain ⟨told, mode, entries⟩ := modeEvent (s := s) (m := .commission) (by decide) ht
    obtain ⟨t, e, hans, hout, hmarked, hp⟩ := exec_event (k := .cmen) h rfl (enters.trans (if_pos hm)) told
    exact ⟨t, e, hans, hout, by rw [hp]; exact mode, by rw [hp]; exact entries, hmarked⟩
  · obtain ⟨told, mode, entries⟩ := modeEvent (s := s) (m := .normal) (by decide) ht
    obtain ⟨t, e, hans, hout, hmarked, hp⟩ := exec_event (k := .cmlv) h rfl (leaves.trans (if_pos hm)) told
    exact ⟨t, e, hans, hout, by rw [hp]; exact mode, by rw [hp]; exact entries, hmarked⟩

end Sys2Proof.Machine
end

section
/-! SUPPORT and the statement about raw changes at damper limits and drive-fault contacts: writing a record that says
nothing new writes it and nothing else, and writing one forgets what the filter timer was (`moveDamper_overwrites`,
`putFan_overwrites`). -/

namespace Sys2Proof.Machine

theorem Ev.setChan_setChan (p : Point) (c d : Channel) (ev : Ev) : (ev.setChan p c).setChan p d = ev.setChan p d := by
  simp [Ev.setChan, Ev.withPlant]

theorem Ev.markIf_false (p : Point) (ev : Ev) : ev.markIf false p = ev := rfl

theorem Ev.evaluateIf_false (ev : Ev) : ev.evaluateIf false = ev := by
  simp [Ev.evaluateIf]

/-! ## A damper's record -/

section Dampers
variable {env : Env} {p : Point} {o : Damper} {ev : Ev} (ho : ev.plant.damper? p = some o)
include ho

/-- A damper record of the same position, fault and TIMED flag says nothing to anyone. -/
theorem putDamper_same {d : Damper} (hp : d.pos = o.pos) (hf : d.fault = o.fault) (ht : d.timed = o.timed)
    (hc : (ev.plant.chan p).cmd = damperCmd (env.store.point p) d) :
    putDamper env p d ev = ev.setChan p { ev.plant.chan p with unit := .damper d } := by
  unfold putDamper
  rw [ho]
  simp only [hp, hf, ht, bne_self_eq_false, Bool.or_self, Ev.markIf_false, Ev.evaluateIf_false, ← hc, ne_eq,
    not_true_eq_false, false_or]
  rw [if_neg fun x => x.2 x.1]

variable {o' : Damper} (hp : o'.pos = o.pos) (hf : o'.fault = o.fault) (ht : o'.timed = o.timed)
include hp hf ht

theorem putDamper_overwrites (d : Damper) :
    putDamper env p d (ev.setChan p { ev.plant.chan p with unit := .damper o' }) = putDamper env p d ev := by
  have ho' : (ev.setChan p { ev.plant.chan p with unit := .damper o' }).plant.damper? p = some o' := by
    rw [Ev.setChan_plant, Plant.damper?_setChan, if_pos rfl]; rfl
  unfold putDamper
  rw [ho, ho']
  simp only [hp, hf, ht, Ev.setChan_setChan, Ev.setChan_plant, Plant.chan_setChan_self]

theorem moveDamper_overwrites (d : Damper) :
    moveDamper env p d (ev.setChan p { ev.plant.chan p with unit := .damper o' }) = moveDamper env p d ev := by
  have open' : (ev.setChan p { ev.plant.chan p with unit := .damper o' }).plant.isOpen p = ev.plant.isOpen p := by
    rw [Plant.isOpen, Plant.isOpen, ho, Ev.setChan_plant, Plant.damper?_setChan, if_pos rfl]
    simp [Channel.damper?, hp]
  unfold moveDamper
  rw [putDamper_overwrites ho hp hf ht, open']

end Dampers

/-! ## A fan's record -/

section Fans
variable {env : Env} {p : Point} {o : Fan} {ev : Ev} (ho : ev.plant.fan? p = some o)

/-- The scheduler follows the state and the drive-alarm flag alone. -/
theorem schedulerFollows_congr {o o' : Fan} (hs : o'.state = o.state) (ha : o'.driveAlarm = o.driveAlarm) (env : Env)
    (p : Point) (f : Fan) (ev : Ev) : schedulerFollows env p o' f ev = schedulerFollows env p o f ev := by
  unfold schedulerFollows
  rw [hs, ha]

theorem schedulerFollows_same {o f : Fan} (hs : f.state = o.state) (ha : f.driveAlarm = o.driveAlarm) (env : Env)
    (p : Point) (ev : Ev) : schedulerFollows env p o f ev = ev := by
  unfold schedulerFollows
  rw [hs, ha]
  simp only [ne_eq, not_and_self, and_not_self, if_false, bne_self_eq_false, Bool.and_false, Bool.false_or,
    Bool.and_not_self, Bool.false_and, Ev.evaluateIf_false]

include ho

/-- A fan record in normal form of the same state, fault kind and drive-alarm flag says nothing to anyone. -/
theorem putFan_same {f : Fan} (hn : f.norm (env.store.point p) = f) (hs : f.state = o.state) (hf : f.fault = o.fault)
    (ha : f.driveAlarm = o.driveAlarm) (hc : (ev.plant.chan p).cmd = o.state.energised) :
    putFan env p f ev = ev.setChan p { ev.plant.chan p with unit := .fan f } := by
  unfold putFan
  rw [ho]
  simp only [hn, schedulerFollows_same hs ha]
  simp only [hs, hf, ha, bne_self_eq_false, Bool.or_self, Ev.markIf_false, ne_eq, not_true_eq_false, if_false,
    Bool.and_not_self, Bool.false_eq_true, ← hc]

theorem putFan_overwrites {o' : Fan} (hs : o'.state = o.state) (hf : o'.fault = o.fault)
    (ha : o'.driveAlarm = o.driveAlarm) (f : Fan) :
    putFan env p f (ev.setChan p { ev.plant.chan p with unit := .fan o' }) = putFan env p f ev := by
  have ho' : (ev.setChan p { ev.plant.chan p with unit := .fan o' }).plant.fan? p = some o' := by
    rw [Ev.setChan_plant, Plant.fan?_setChan, if_pos rfl]; rfl
  unfold putFan
  rw [ho, ho']
  simp only [hs, hf, ha, schedulerFollows_congr hs ha, Ev.setChan_setChan, Ev.setChan_plant, Plant.chan_setChan_self]

/-- The fault is indicated and the state is as before: the filter's levels and timer alone are written. -/
theorem driveFilterTakes_overwrites {t : Timer} {g : Filter} :
    driveFilterTakes env p { o with fbbFilt := { o.fbbFilt with timer := t } } g
        (ev.setChan p { ev.plant.chan p with unit := .fan { o with fbbFilt := { o.fbbFilt with timer := t } } }) =
      driveFilterTakes env p o g ev := by
  unfold driveFilterTakes
  simp only [putFan_overwrites (o' := { o with fbbFilt := { o.fbbFilt with timer := t } }) ho rfl rfl rfl]

end Fans

/-- A sound fan record is in its normal form. -/
theorem Fan.TableSound.norm_eq {c : PointCfg} {f : Fan} (h : f.TableSound c) : f.norm c = f := by
  obtain ⟨-, -, -, hw, hf, ha, -⟩ := h
  have wait : (if f.state = .queued then f.wait else none) = f.wait := by
    split
    · rfl
    · rename_i hs
      cases e : f.wait with
      | none => rfl
      | some r => exact absurd (hw (by rw [e]; rfl)) hs
  have fault : (if f.state = .fault then f.fault else .none) = f.fault := by
    split
    · rfl
    · rename_i hs
      have rest : (f.fault != .none) = false := by rw [hf]; simpa using hs
      exact (bne_eq_false_iff_eq.mp rest).symm
  unfold Fan.norm
  rw [wait, fault, ← ha]

/-- The normal form reads the filtered level alone of the filter. -/
theorem Fan.norm_fbbTimer {c : PointCfg} {f : Fan} (h : f.norm c = f) (t : Timer) :
    ({ f with fbbFilt := { f.fbbFilt with timer := t } } : Fan).norm c =
      { f with fbbFilt := { f.fbbFilt with timer := t } } := by
  have wait := congrArg Fan.wait h
  have fault := congrArg Fan.fault h
  have alarm := congrArg Fan.driveAlarm h
  simp only [Fan.norm] at wait fault alarm ⊢
  rw [wait, fault, alarm]

/-! ## The statement -/

section Lines
variable {s : State} {p : Point} {level : Level}

theorem exec_feedbackChange (hh : s.held = false) (i : LimitInput) :
    feedbackChange p i level s = s.runEvent (feedbackLine p i level) := by simp [feedbackChange, hh]

/-- The event of a feedback line that changes: the line, then what the record makes of it. -/
theorem feedbackLine_unused {i : LimitInput} (hl : (s.plant.chan p).line i ≠ level)
    (hu : (s.plant.chan p).unit = .unused) :
    feedbackLine p i level s.env (.start s.plant) =
      (Ev.start s.plant).setChan p ((s.plant.chan p).setLine i level) :=
  (if_neg hl).trans (by rw [Ev.start_plant, hu])

theorem feedbackLine_damper {i : LimitInput} {d : Damper} (hl : (s.plant.chan p).line i ≠ level)
    (hd : (s.plant.chan p).unit = .damper d) :
    feedbackLine p i level s.env (.start s.plant) =
      damperLine s.env p i level d ((Ev.start s.plant).setChan p ((s.plant.chan p).setLine i level)) :=
  (if_neg hl).trans (by rw [Ev.start_plant, hd])

theorem feedbackLine_fbb {f : Fan} (hl : (s.plant.chan p).fbb ≠ level) (hu : (s.plant.chan p).unit = .fan f) :
    feedbackLine p .fbb level s.env (.start s.plant) =
      driveLine s.env p level f ((Ev.start s.plant).setChan p ((s.plant.chan p).setLine .fbb level)) :=
  (if_neg hl).trans (by rw [Ev.start_plant, hu])

/-- The running-out of a limit's filter timer: the filter takes the line's level. -/
theorem limitTimerOut_eq {env : Env} {i : LimitInput} {d : Damper} {ev : Ev} (hd : ev.plant.damper? p = some d)
    (hr : (d.filt i).timer.isRunning = true) :
    limitTimerOut p i env ev =
      limitFilterTakes env p i d { filtered := (ev.plant.chan p).line i, timer := .idle } ev := by
  unfold limitTimerOut
  rw [hd]
  refine (if_pos hr).trans ?_
  cases i <;> rfl

theorem driveTimerOut_eq {env : Env} {f : Fan} {ev : Ev} (hf : ev.plant.fan? p = some f)
    (hr : f.fbbFilt.timer.isRunning = true) :
    driveTimerOut p env ev = driveFilterTakes env p f { filtered := (ev.plant.chan p).fbb, timer := .idle } ev := by
  unfold driveTimerOut
  rw [hf]
  exact if_pos hr

end Lines

section Limits
variable {s : State} {p : Point} {i : LimitInput} {level : Level} {d : Damper}

/-- A damper's record with the filter timer of an input as given, behind the line's change. -/
def State.withLimitTimer (s : State) (p : Point) (i : LimitInput) (level : Level) (d : Damper) (x : Timer) : Plant :=
  s.plant.setChan p
    { (s.plant.chan p).setLine i level with unit := .damper (d.setFilt i { d.filt i with timer := x }) }

theorem Damper.setFilt_setFilt (i : LimitInput) (f g : Filter) (d : Damper) :
    (d.setFilt i f).setFilt i g = d.setFilt i g := by cases i <;> rfl

theorem Damper.filt_setFilt (i : LimitInput) (f : Filter) (d : Damper) : (d.setFilt i f).filt i = f := by
  cases i <;> rfl

theorem Damper.setFilt_same (i : LimitInput) (f : Filter) (d : Damper) :
    (d.setFilt i f).pos = d.pos ∧ (d.setFilt i f).fault = d.fault ∧ (d.setFilt i f).timed = d.timed ∧
      (d.setFilt i f).held = d.held := by cases i <;> exact ⟨rfl, rfl, rfl, rfl⟩

theorem damperCmd_setFilt (c : PointCfg) (i : LimitInput) (f : Filter) (d : Damper) :
    damperCmd c (d.setFilt i f) = damperCmd c d := by
  obtain ⟨hp, -, -, hh⟩ := d.setFilt_same i f
  unfold damperCmd
  rw [hp, hh]

theorem Channel.setLine_same (i : LimitInput) (level : Level) (c : Channel) :
    (c.setLine i level).unit = c.unit ∧ (c.setLine i level).cmd = c.cmd ∧ (c.setLine i level).line i = level := by
  cases i <;> exact ⟨rfl, rfl, rfl⟩

variable (hd : (s.plant.chan p).unit = .damper d)
include hd

/-- The line's change behind which the damper's record stands as it was. -/
theorem setLine_damper? :
    ((Ev.start s.plant).setChan p ((s.plant.chan p).setLine i level)).plant.damper? p = some d := by
  rw [Plant.damper?_eq_some, Ev.setChan_plant, Plant.chan_setChan_self, (Channel.setLine_same i level _).1, hd]

theorem limitLine_quiet (hl : (s.plant.chan p).line i ≠ level) (hr : (s.store.point p).readsLimit i = true)
    (hc : (s.plant.chan p).cmd = damperCmd (s.store.point p) d) {x : Timer}
    (hx : (d.filt i).rawChange s.store.device.tFBF level = { d.filt i with timer := x }) :
    s.runEvent (feedbackLine p i level) = { s with plant := s.withLimitTimer p i level d x } := by
  refine State.runEvent_quiet ?_
  rw [feedbackLine_damper hl hd]
  refine (if_pos hr).trans ?_
  show limitFilterTakes s.env p i d ((d.filt i).rawChange s.store.device.tFBF level) _ = _
  rw [hx, limitFilterTakes, if_pos rfl]
  obtain ⟨hp, hf, ht, -⟩ := d.setFilt_same i { d.filt i with timer := x }
  rw [putDamper_same (setLine_damper? hd) hp hf ht, Ev.setChan_setChan, Ev.setChan_plant, Plant.chan_setChan_self]
  · rfl
  · rw [damperCmd_setFilt, Ev.setChan_plant, Plant.chan_setChan_self, (Channel.setLine_same i level _).2.1]
    exact hc

/-- With a tFBF of 0 the filter takes the level as it does when its timer runs out. -/
theorem limitLine_at_once (hl : (s.plant.chan p).line i ≠ level) (hr : (s.store.point p).readsLimit i = true)
    (hf : (d.filt i).filtered ≠ level) (ht : s.store.device.tFBF = 0) :
    s.runEvent (feedbackLine p i level) =
      State.runEvent (limitTimerOut p i) { s with plant := s.withLimitTimer p i level d (.running 0 0) } := by
  refine State.runEvent_congr ?_
  let x : Damper := d.setFilt i { d.filt i with timer := .running 0 0 }
  let ev := (Ev.start s.plant).setChan p ((s.plant.chan p).setLine i level)
  have start : Ev.start (s.withLimitTimer p i level d (.running 0 0)) =
      ev.setChan p { ev.plant.chan p with unit := .damper x } := by
    rw [Ev.setChan_setChan, Ev.setChan_plant, Plant.chan_setChan_self]
    rfl
  have hx : (ev.setChan p { ev.plant.chan p with unit := .damper x }).plant.damper? p = some x := by
    rw [Ev.setChan_plant, Plant.damper?_setChan, if_pos rfl]; rfl
  have raw : ((ev.setChan p { ev.plant.chan p with unit := .damper x }).plant.chan p).line i = level := by
    rw [Ev.setChan_plant, Plant.chan_setChan_self, Ev.setChan_plant, Plant.chan_setChan_self]
    cases i <;> rfl
  obtain ⟨hp, hf', ht', -⟩ := d.setFilt_same i { d.filt i with timer := .running 0 0 }
  have new {y : Damper} (hy : (y.filt i).filtered ≠ level) (e : Ev) :
      limitFilterTakes s.env p i y { filtered := level, timer := .idle } e =
        moveDamper s.env p ((y.setFilt i { filtered := level, timer := .idle }).limitEvent (s.store.point p) i) e := by
    rw [limitFilterTakes, if_neg hy]; rfl
  have left : feedbackLine p i level s.env (.start s.plant) =
      limitFilterTakes s.env p i d { filtered := level, timer := .idle } ev := by
    rw [feedbackLine_damper hl hd]
    refine (if_pos hr).trans ?_
    show limitFilterTakes s.env p i d ((d.filt i).rawChange s.store.device.tFBF level) ev = _
    rw [ht, Filter.rawChange_zero hf]
  have right : limitTimerOut p i s.env (.start (s.withLimitTimer p i level d (.running 0 0))) =
      limitFilterTakes s.env p i x { filtered := level, timer := .idle }
        (ev.setChan p { ev.plant.chan p with unit := .damper x }) := by
    rw [start, limitTimerOut_eq hx (by rw [Damper.filt_setFilt]; rfl), raw]
  rw [left, right, new hf, new (by simp only [x, Damper.filt_setFilt]; exact hf),
    moveDamper_overwrites (setLine_damper? hd) hp hf' ht', Damper.setFilt_setFilt]

end Limits

section Drive
variable {s : State} {p : Point} {level : Level} {f : Fan}

/-- A fan's record with the filter timer of its drive-fault contact as given, behind the line's change. -/
def State.withDriveTimer (s : State) (p : Point) (level : Level) (f : Fan) (x : Timer) : Plant :=
  s.plant.setChan p
    { s.plant.chan p with fbb := level, unit := .fan { f with fbbFilt := { f.fbbFilt with timer := x } } }

variable (hu : (s.plant.chan p).unit = .fan f)
include hu

theorem setFbb_fan? :
    ((Ev.start s.plant).setChan p ((s.plant.chan p).setLine .fbb level)).plant.fan? p = some f := by
  rw [Plant.fan?_eq_some, Ev.setChan_plant, Plant.chan_setChan_self, (Channel.setLine_same .fbb level _).1, hu]

theorem driveLine_unread (hl : (s.plant.chan p).fbb ≠ level) (hr : (s.store.point p).readsDriveContact = false) :
    s.runEvent (feedbackLine p .fbb level) = { s with plant := s.withDriveTimer p level f f.fbbFilt.timer } := by
  refine State.runEvent_quiet ?_
  rw [feedbackLine_fbb hl hu]
  refine (if_neg (by rw [show s.env.store = s.store from rfl, hr]; decide)).trans ?_
  show Ev.start _ = _
  rw [State.withDriveTimer, ← hu]
  rfl

theorem driveLine_quiet (hl : (s.plant.chan p).fbb ≠ level) (hr : (s.store.point p).readsDriveContact = true)
    (hn : f.norm (s.store.point p) = f) (hc : (s.plant.chan p).cmd = f.state.energised) {x : Timer}
    (hx : f.fbbFilt.rawChange s.store.device.tFBF level = { f.fbbFilt with timer := x }) :
    s.runEvent (feedbackLine p .fbb level) = { s with plant := s.withDriveTimer p level f x } := by
  refine State.runEvent_quiet ?_
  rw [feedbackLine_fbb hl hu]
  refine (if_pos hr).trans ?_
  show driveFilterTakes s.env p f (f.fbbFilt.rawChange s.store.device.tFBF level) _ = _
  rw [hx, driveFilterTakes, if_neg (by simp),
    putFan_same (f := { f with fbbFilt := { f.fbbFilt with timer := x } }) (setFbb_fan? hu) (Fan.norm_fbbTimer hn x) rfl
      rfl rfl, Ev.setChan_setChan, Ev.setChan_plant, Plant.chan_setChan_self]
  · rfl
  · rw [Ev.setChan_plant, Plant.chan_setChan_self, (Channel.setLine_same .fbb level _).2.1]
    exact hc

theorem driveLine_at_once (hl : (s.plant.chan p).fbb ≠ level) (hr : (s.store.point p).readsDriveContact = true)
    (hf : f.fbbFilt.filtered ≠ level) (ht : s.store.device.tFBF = 0) :
    s.runEvent (feedbackLine p .fbb level) =
      State.runEvent (driveTimerOut p) { s with plant := s.withDriveTimer p level f (.running 0 0) } := by
  refine State.runEvent_congr ?_
  let ev := (Ev.start s.plant).setChan p ((s.plant.chan p).setLine .fbb level)
  let x : Fan := { f with fbbFilt := { f.fbbFilt with timer := .running 0 0 } }
  have start : Ev.start (s.withDriveTimer p level f (.running 0 0)) =
      ev.setChan p { ev.plant.chan p with unit := .fan x } := by
    rw [Ev.setChan_setChan, Ev.setChan_plant, Plant.chan_setChan_self]
    rfl
  have hx : (ev.setChan p { ev.plant.chan p with unit := .fan x }).plant.fan? p = some x := by
    rw [Ev.setChan_plant, Plant.fan?_setChan, if_pos rfl]; rfl
  have raw : ((ev.setChan p { ev.plant.chan p with unit := .fan x }).plant.chan p).fbb = level := by
    rw [Ev.setChan_plant, Plant.chan_setChan_self, Ev.setChan_plant, Plant.chan_setChan_self]
    rfl
  rw [feedbackLine_fbb hl hu, start]
  refine (if_pos hr).trans ?_
  show driveFilterTakes s.env p f (f.fbbFilt.rawChange s.store.device.tFBF level) ev = _
  rw [driveTimerOut_eq hx rfl, raw, ht, Filter.rawChange_zero hf, driveFilterTakes_overwrites (setFbb_fan? hu)]

end Drive

/-- Settles O19: a filter timer loaded or cancelled is written into a record that says nothing new (`limitLine_quiet`,
`driveLine_quiet`), and with a tFBF of 0 the filter takes the level as at the end of its time (`limitLine_at_once`,
`driveLine_at_once`). -/
theorem feedbackChangesFilter : Obligations.FeedbackChangesFilter := by
  intro s p level hh hcmd
  have cmds := (cmdSound_iff s).mp hcmd p
  rw [hh, Bool.not_false, Bool.true_and] at cmds
  have limit (i : LimitInput) : exec (.limitRawLevelChange p i level) s = .next (s.runEvent (feedbackLine p i level)) :=
    congrArg Host.Outcome.next (exec_feedbackChange hh i)
  have drive : exec (.fbbRawLevelChange p level) s = .next (s.runEvent (feedbackLine p .fbb level)) :=
    congrArg Host.Outcome.next (exec_feedbackChange hh .fbb)
  have outs (pl : Plant) (g : Env → Ev → Ev) :
      ({ s with plant := pl } : State).unlessHeld (State.runEvent g) = State.runEvent g { s with plant := pl } := by
    simp [State.unlessHeld, hh]
  refine ⟨fun i hl => ⟨fun hu => ?_, fun d hd => ⟨fun hr => ?_, fun hr => ⟨fun hf ht => ?_, fun hf ht => ?_,
    fun hf => ?_⟩⟩⟩, fun f hfans hu hl => ⟨fun hr => ?_, fun hr => ⟨fun hf ht => ?_, fun hf ht => ?_, fun hf => ?_⟩⟩⟩
  · rw [limit, State.runEvent_quiet]
    rw [feedbackLine_unused hl hu]
    rfl
  · rw [limit, State.runEvent_quiet]
    rw [feedbackLine_damper hl hd]
    exact if_neg (by rw [show s.env.store = s.store from rfl, hr]; decide)
  · rw [limit, limitLine_quiet hd hl hr (by rw [cmds, hd]; rfl) (Filter.rawChange_load hf ht)]
    rfl
  · rw [limit, limitLine_at_once hd hl hr hf ht]
    exact (congrArg Host.Outcome.next (outs _ _)).symm
  · rw [limit, limitLine_quiet hd hl hr (by rw [cmds, hd]; rfl)
      ((Filter.rawChange_back hf).trans (by rw [← hf]))]
    rfl
  · have hr' : (s.store.point p).readsDriveContact = false := by rw [PointCfg.readsDriveContact, hr]; rfl
    rw [drive, driveLine_unread hu hl hr']
    rfl
  all_goals
    have hr' : (s.store.point p).readsDriveContact = true := by simpa [PointCfg.readsDriveContact] using hr
    have hn := (hfans hh p f (Plant.fan?_eq_some.mpr hu)).norm_eq
  · rw [drive, driveLine_quiet hu hl hr' hn (by rw [cmds, hu]; rfl) (Filter.rawChange_load hf ht)]
    rfl
  · rw [drive, driveLine_at_once hu hl hr' hf ht]
    exact (congrArg Host.Outcome.next (outs _ _)).symm
  · rw [drive, driveLine_quiet hu hl hr' hn (by rw [cmds, hu]; rfl)
      ((Filter.rawChange_back hf).trans (by rw [← hf]))]
    rfl

end Sys2Proof.Machine
end

section
/-! SUPPORT and the statement about FIRE, RESTORE and NORMAL: a report of the list resolves every point in the mode it
sets, a fan that turns keeps a restore from completing, and the report of the last one's rest completes it. -/

namespace Sys2Proof.Machine

/-! ## The list's report -/

/-- The event as the list's report leaves it to the resolution: the mode set from the list, and a test that this ends
aborted (R38). -/
def Ev.atReport (env : Env) (ev : Ev) : Ev :=
  (if ev.plant.mode = .test ∧ modeAfterReport ev.plant.mode env.alarms.isEmpty = .fire then abortTest ev
    else ev).setMode (modeAfterReport ev.plant.mode env.alarms.isEmpty)

theorem listReport_plant (env : Env) (ev : Ev) :
    (listReport env ev).plant = (resolveAll env false (ev.atReport env)).plant := by
  unfold listReport
  dsimp only
  split <;> rfl

theorem Ev.atReport_normal (env : Env) (ev : Ev) (p : Point) :
    ((ev.atReport env).plant.chan p).normal = (ev.plant.chan p).normal := by
  rw [Ev.atReport, Ev.setMode_chan]
  split
  · exact (abortTest_frame entriesKept_frame ev p).2.2.2.1
  · rfl

/-- Every point holds the demand of R35 after a report. -/
theorem listReport_holdsDemand {env : Env} {p : Point} (hk : env.store.kind p ≠ .unused) (ev : Ev) :
    (listReport env ev).plant.HoldsDemand env p := by
  rw [listReport_plant]
  exact resolveAll_holdsDemand hk false _

/-- In FIRE a resolution stores the fire demand (R28). -/
theorem resolveAll_lastFire {env : Env} {p : Point} (hk : env.store.kind p ≠ .unused) (b : Bool) {ev : Ev}
    (hm : ev.plant.mode = .fire) :
    ((resolveAll env b ev).plant.chan p).lastFire = some (fireDemand env p (ev.plant.chan p).normal).action := by
  have h := resolveAll_resolverSide env b ev p
  rw [if_neg hk, Channel.resolvedAt_eq, if_pos hm] at h
  exact congrArg Channel.lastFire h

/-- A report of a list that is not empty (R28, R38): to the end of its event every FAN or DAMPER point has the fire
demand as its last one, and holds it unless under override. -/
theorem runEvent_listReport_fire {s : State} (hl : s.alarms ≠ [])
    (ht : s.plant.test.state = .running → s.plant.mode = .test) {p : Point} (hk : s.store.kind p ≠ .unused) :
    let d := fireDemand s.env p (s.plant.chan p).normal
    ((s.runEvent listReport).plant.chan p).lastFire = some d.action ∧
      ((s.plant.chan p).override = .auto → ((s.runEvent listReport).plant.chan p).resolved = some d) := by
  have steady : (listReport s.env (.start s.plant)).FireSteady := listReport_fireSteady (env := s.env) hl ht
  obtain ⟨-, -, override, normal, -⟩ := listReport_frame entriesKept_frame s.env (.start s.plant) p
  constructor
  · have mode : ((Ev.start s.plant).atReport s.env).plant.mode = .fire := by
      rw [← resolveAll_mode s.env false, ← listReport_plant]; exact steady.1
    have stored : (listReport s.env (.start s.plant)).LastFireAt s.env p (s.plant.chan p).normal := by
      refine ⟨steady.2, normal, ?_⟩
      rw [if_pos ⟨hk, steady.1⟩, listReport_plant, resolveAll_lastFire (env := s.env) hk false mode,
        Ev.atReport_normal]
      rfl
    have k : (finishEvent s.env (listReport s.env (.start s.plant))).LastFireAt s.env p (s.plant.chan p).normal ∧
        (finishEvent s.env (listReport s.env (.start s.plant))).FireSteady :=
      (finishEvent_moves s.env False _ False.elim).keeps
        (P := fun x => x.LastFireAt s.env p (s.plant.chan p).normal ∧ x.FireSteady)
        (fun _ _ u k => ⟨u.keeps_lastFireAt k.1, u.keeps_fireSteady k.2⟩) ⟨stored, steady⟩
    exact k.1.lastFire.trans (if_pos ⟨hk, k.2.1⟩)
  · intro auto
    refine (State.runEvent_demand
      (K := fun pl => pl.Steady .fire ∧ (pl.chan p).override = .auto ∧ (pl.chan p).normal = (s.plant.chan p).normal)
      (D := (· = _)) hk
      (fun _ _ u k => ⟨u.keeps_steady (by decide) k.1, (u.override_eq p).trans k.2.1, (u.normal_eq p).trans k.2.2⟩)
      (fun pl k => ?_) ⟨steady, override.trans auto, normal⟩ (listReport_holdsDemand (env := s.env) hk _)).2
    obtain ⟨⟨hm, -⟩, ho, hn⟩ := k
    rw [resolution_of_auto _ ho, hm, ← hn]
    rfl

/-! ## A restore that goes on (R43, R44) -/

section Restoring
variable {env : Env} {ev : Ev}

/-- With no test running and no restore to complete, the reports bring nothing. -/
theorem takeReport_idle (ht : ev.plant.test.state ≠ .running)
    (hc : ev.plant.mode = .restore → restoreComplete ev.plant = false) (r : Report) : takeReport env ev r = ev := by
  have under (p : Point) : ev.underTest p = false := by simp [Ev.underTest, ht]
  have check : checkRestore env ev = ev := if_neg fun x => by rw [hc x.1] at x; cases x.2
  cases r with
  | damper p pos fault => exact if_neg (by simp [under])
  | fan p state fault => simp only [takeReport, check, under, Bool.false_eq_true, if_false]
  | override p => exact if_neg (by simp [under])
  | restoreCheck => exact check

theorem settle_plant_idle (n : Nat) (ht : ev.plant.test.state ≠ .running)
    (hc : ev.plant.mode = .restore → restoreComplete ev.plant = false) : (settle env n ev).plant = ev.plant := by
  have fold (l : List Report) (x : Ev) (hx : x.plant = ev.plant) : l.foldl (takeReport env) x = x := by
    induction l with
    | nil => rfl
    | cons r rs ih => rw [List.foldl_cons, takeReport_idle (by rw [hx]; exact ht) (by rw [hx]; exact hc), ih]
  induction n generalizing ev with
  | zero => rfl
  | succ n ih =>
    unfold settle
    split
    · rfl
    · rw [fold _ { ev with reports := [] } rfl]
      exact ih (ev := { ev with reports := [] }) ht hc fun l x hx => fold l x hx

/-- Once the reports are settled, the end of an event leaves the mode and the resolver's sides. -/
theorem finishEvent_of_settled (h : (settleAll env ev).plant = ev.plant) :
    (finishEvent env ev).plant.mode = ev.plant.mode ∧
      ∀ q, ((finishEvent env ev).plant.chan q).resolverSide = (ev.plant.chan q).resolverSide := by
  have k : ev.plant.SequencersOnly
      (if (settleAll env ev).evalDue then evaluate env (settleAll env ev) else settleAll env ev).plant := by
    rw [← h]
    split
    · exact evaluate_frame sequencersOnly_frame env _
    · exact sequencersOnly_frame.refl _
  exact ⟨k.1, k.resolverSide⟩

/-- The point is a fan that turns. -/
def Plant.FanTurns (q : Point) (pl : Plant) : Prop := ∃ f, pl.fan? q = some f ∧ f.state.turning = true

/-- A fan whose run-down takes time goes on turning through every update of an event. -/
theorem Upd.keeps_fanTurns {Q : Prop} {a b : Ev} {q : Point} (ht : 0 < (env.store.point q).tRD)
    (u : Upd env Q a b) (h : a.plant.FanTurns q) : b.plant.FanTurns q := by
  obtain ⟨x, hx, hs⟩ := h
  cases u with
  | res u => exact ⟨x, (u.unitsKept.fan? q).trans hx, hs⟩
  | seq u =>
    cases u with
    | damper p d => exact ⟨x, (putDamper_fan? ..).trans hx, hs⟩
    | @fan p o f hf hd =>
      by_cases e : q = p
      · subst e
        rw [hf] at hx
        cases hx
        refine ⟨_, putFan_fan?_self env f hf, ?_⟩
        rw [Fan.norm_state]
        cases hd with
        | held _ => exact hs
        | queues _ ho => rw [ho] at hs; cases hs
        | leaves _ ho => rw [ho] at hs; cases hs
        | speed _ _ _ => exact hs
      · exact ⟨x, (putFan_fan?_ne env f a e).trans hx, hs⟩
    | @runDown p o hf _ =>
      by_cases e : q = p
      · subst e
        refine ⟨_, (enterRunDown_fan? env hf q).trans (if_pos rfl), ?_⟩
        rw [Fan.ranDown, if_neg (Nat.pos_iff_ne_zero.mp ht)]
        rfl
      · exact ⟨x, ((enterRunDown_fan? env hf q).trans (if_neg e)).trans hx, hs⟩
    | @wait p f r hf _ =>
      by_cases e : q = p
      · subst e
        rw [hf] at hx
        cases hx
        exact ⟨{ x with wait := some r }, by simp [setWait, Plant.fan?, Channel.fan?], hs⟩
      · exact ⟨x, (setWait_fan?_ne _ _ _ e).trans hx, hs⟩
    | @start p f hf _ =>
      by_cases e : q = p
      · subst e
        exact ⟨_, (startFan_fan? hf q).trans (if_pos rfl), rfl⟩
      · exact ⟨x, ((startFan_fan? hf q).trans (if_neg e)).trans hx, hs⟩

theorem Plant.FanTurns.not_complete {pl : Plant} {q : Point} (h : pl.FanTurns q) : restoreComplete pl = false := by
  obtain ⟨f, hf, hs⟩ := h
  rw [restoreComplete, List.all_eq_false]
  refine ⟨q, by simp [allPoints], ?_⟩
  rw [hf]
  cases e : f.state <;> simp_all [FanState.turning]

end Restoring

/-- The entry to RESTORE while a fan of the plant still turns (R42, R43): to the end of its event the mode is RESTORE, and
every FAN or DAMPER point not under override holds its RESTORE demand. -/
theorem runEvent_listReport_restore {s : State} (hl : s.alarms = []) (hm : s.plant.mode = .fire) (ht : s.NoTest)
    {q : Point} (hq : s.plant.FanTurns q) (hr : 0 < (s.store.point q).tRD) :
    (s.runEvent listReport).plant.mode = .restore ∧
      ∀ p, s.store.kind p ≠ .unused → (s.plant.chan p).override = .auto →
        ((s.runEvent listReport).plant.chan p).lastFire = (s.plant.chan p).lastFire ∧
          ((s.runEvent listReport).plant.chan p).resolved = some (restoreDemand (s.store.point p) (s.plant.chan p)) := by
  let ev := (Ev.start s.plant).setMode .restore
  have plant : (listReport s.env (.start s.plant)).plant = (resolveAll s.env false ev).plant := by
    rw [listReport_plant]
    have e : (Ev.start s.plant).atReport s.env = ev := by
      simp [Ev.atReport, hm, modeAfterReport, State.env, hl, ev]
    rw [e]
  have mode : (listReport s.env (.start s.plant)).plant.mode = .restore := by rw [plant, resolveAll_mode]; rfl
  have test : (listReport s.env (.start s.plant)).plant.test.state ≠ .running := by
    rw [plant, resolveAll_test]; exact ht
  have turns : (listReport s.env (.start s.plant)).plant.FanTurns q := by
    rw [plant]
    exact (resolveAll_moves s.env False false ev).keeps (P := fun x => x.plant.FanTurns q)
      (fun _ _ u k => u.keeps_fanTurns (env := s.env) hr k) hq
  obtain ⟨emode, side⟩ := finishEvent_of_settled (env := s.env)
    (settle_plant_idle Config.settleRounds test fun _ => turns.not_complete)
  refine ⟨emode.trans mode, fun p hk ho => ?_⟩
  have used : ¬ s.env.store.kind p = .unused := hk
  have h := side p
  rw [plant, resolveAll_resolverSide, if_neg used] at h
  have stays : (s.plant.chan p).resolverSide.fireStored s.env .restore p = (s.plant.chan p).resolverSide :=
    if_neg (by decide)
  refine ⟨(congrArg Channel.lastFire h).trans ?_, (congrArg Channel.resolved h).trans ?_⟩
  · rw [Channel.resolvedAt_eq]
    rfl
  · show some (resolution s.env .restore p ((s.plant.chan p).resolverSide.fireStored s.env .restore p)) = _
    rw [stays, resolution_of_auto _ (show (s.plant.chan p).resolverSide.override = .auto from ho)]
    rfl

/-! ## A restore that completes (R44) -/

section Completing
variable {env : Env}

theorem putDamper_reports (p : Point) (d : Damper) (ev : Ev) : ev.reports ⊆ (putDamper env p d ev).reports := by
  unfold putDamper
  split
  · exact fun _ h => h
  · dsimp only
    split
    · intro r h
      rw [Ev.report_reports, Ev.evaluateIf_reports, Ev.markIf_reports, Ev.setChan_reports]
      exact List.mem_append_left _ h
    · intro r h
      rw [Ev.evaluateIf_reports, Ev.markIf_reports, Ev.setChan_reports]
      exact h

theorem releaseWaiting_reports (ev : Ev) : ev.reports ⊆ (releaseWaiting env ev).reports := by
  have one (x : Ev) (p : Point) : x.reports ⊆ (releaseOne env x p).reports := by
    unfold releaseOne
    split
    · exact fun _ h => h
    · split
      · exact putDamper_reports ..
      · exact fun _ h => h
  unfold releaseWaiting
  induction allPoints generalizing ev with
  | nil => exact fun _ h => h
  | cons p ps ih => exact fun r h => ih _ (one ev p h)

/-- A change of a fan's state is reported (R92). -/
theorem putFan_reports {p : Point} {f o : Fan} {ev : Ev} (ho : ev.plant.fan? p = some o) (hs : o.state ≠ f.state) :
    Report.fan p f.state (f.norm (env.store.point p)).fault ∈ (putFan env p f ev).reports := by
  unfold putFan
  rw [ho]
  simp only [Fan.norm_state, ne_eq, hs, not_false_eq_true, if_true]
  split
  · exact releaseWaiting_reports _ (by simp)
  · simp

/-- A restore about to complete: RESTORE, no test, every fan in IDLE or FAULT. -/
structure Plant.Restored (pl : Plant) : Prop where
  mode : pl.mode = .restore
  test : pl.test.state ≠ .running
  complete : restoreComplete pl = true

/-- The point holds its normal demand in NORMAL. -/
structure Plant.BackToNormal (env : Env) (q : Point) (v : Action) (pl : Plant) : Prop where
  steady : pl.Steady .normal
  override : (pl.chan q).override = .auto
  normal : (pl.chan q).normal = v
  resolved : (pl.chan q).resolved =
    some { action := v.inForm (env.store.point q), source := .normal, fireZone := none }

theorem Upd.keeps_backToNormal {q : Point} {v : Action} (hk : env.store.kind q ≠ .unused) {Q : Prop} {a b : Ev}
    (u : Upd env Q a b) (h : a.plant.BackToNormal env q v) : b.plant.BackToNormal env q v := by
  have k := u.keeps_demand
    (K := fun pl => pl.Steady .normal ∧ (pl.chan q).override = .auto ∧ (pl.chan q).normal = v)
    (D := (· = some { action := v.inForm (env.store.point q), source := .normal, fireZone := none })) hk
    (fun _ _ u k => ⟨u.keeps_steady (by decide) k.1, (u.override_eq q).trans k.2.1, (u.normal_eq q).trans k.2.2⟩)
    (fun pl k => by
      obtain ⟨⟨hm, -⟩, ho, hn⟩ := k
      rw [resolution_of_auto _ ho, hm, ← hn]
      rfl)
    ⟨⟨h.steady, h.override, h.normal⟩, h.resolved⟩
  obtain ⟨⟨hs, ho, hn⟩, hr⟩ := k
  exact ⟨hs, ho, hn, hr⟩

/-- The check that completes the restore sets NORMAL. -/
theorem checkRestore_steady {ev : Ev} (h : ev.plant.Restored) : (checkRestore env ev).plant.Steady .normal := by
  rw [checkRestore, if_pos ⟨h.mode, h.complete⟩]
  exact (resolveAll_moves env False false (ev.setMode .normal)).keeps (P := fun x => x.plant.Steady .normal)
    (fun _ _ u k => u.keeps_steady (by decide) k) ⟨rfl, h.test⟩

/-- It hands every point its normal demand. -/
theorem checkRestore_backToNormal {q : Point} {v : Action} (hk : env.store.kind q ≠ .unused) {ev : Ev}
    (h : ev.plant.Restored) (ho : (ev.plant.chan q).override = .auto) (hn : (ev.plant.chan q).normal = v) :
    (checkRestore env ev).plant.BackToNormal env q v := by
  have steady := checkRestore_steady (env := env) h
  rw [checkRestore, if_pos ⟨h.mode, h.complete⟩] at steady ⊢
  obtain ⟨override, normal⟩ := (resolveAll_moves env False false (ev.setMode .normal)).keeps
    (P := fun x => (x.plant.chan q).override = .auto ∧ (x.plant.chan q).normal = v)
    (fun _ _ u k => ⟨(u.override_eq q).trans k.1, (u.normal_eq q).trans k.2⟩) ⟨ho, hn⟩
  refine ⟨steady, override, normal, ?_⟩
  have holds := resolveAll_holdsDemand hk false (ev.setMode .normal)
  rw [Plant.HoldsDemand, resolution_of_auto _ override, steady.1] at holds
  rw [holds, ← normal]
  rfl

/-- In a restore about to complete the report of a fan completes it. -/
theorem takeReport_fan_restored {ev : Ev} (h : ev.plant.Restored) (p : Point) (x : FanState) (y : FanFault) :
    takeReport env ev (.fan p x y) = checkRestore env ev := by
  have under : (checkRestore env ev).underTest p = false := by
    simp [Ev.underTest, (checkRestore_steady (env := env) h).2]
  simp only [takeReport, under, Bool.false_eq_true, if_false]

/-- Any other report completes it or changes nothing. -/
theorem takeReport_restored {ev : Ev} (h : ev.plant.Restored) (r : Report) :
    takeReport env ev r = ev ∨ takeReport env ev r = checkRestore env ev := by
  have under (p : Point) : ev.underTest p = false := by simp [Ev.underTest, h.test]
  cases r with
  | damper p pos fault => exact .inl (if_neg (by simp [under]))
  | fan p state fault => exact .inr (takeReport_fan_restored h p state fault)
  | override p => exact .inl (if_neg (by simp [under]))
  | restoreCheck => exact .inr rfl

section Kept
variable {B : Plant → Prop} (keeps : ∀ a b : Ev, Upd env False a b → B a.plant → B b.plant)
include keeps

/-- What the check establishes and every update keeps holds after reports among which is one of a fan. -/
theorem takeReports_restored {l : List Report} {p : Point} {x : FanState} {y : FanFault} (hl : Report.fan p x y ∈ l)
    {ev : Ev} (h : ev.plant.Restored) (done : B (checkRestore env ev).plant) :
    B (l.foldl (takeReport env) ev).plant := by
  have rest (rs : List Report) : B (rs.foldl (takeReport env) (checkRestore env ev)).plant :=
    (foldl_moves _ (takeReport_moves env False) rs _).keeps (P := fun x => B x.plant) keeps done
  induction l with
  | nil => exact absurd hl List.not_mem_nil
  | cons r rs ih =>
    rw [List.foldl_cons]
    rcases List.mem_cons.mp hl with rfl | later
    · rw [takeReport_fan_restored h]
      exact rest rs
    · rcases takeReport_restored (env := env) h r with e | e <;> rw [e]
      · exact ih later
      · exact rest rs

/-- So it does at the end of the event. -/
theorem finishEvent_restored {p : Point} {x : FanState} {y : FanFault} {ev : Ev} (hr : Report.fan p x y ∈ ev.reports)
    (h : ev.plant.Restored) (done : B (checkRestore env { ev with reports := [] }).plant) :
    B (finishEvent env ev).plant := by
  have settled : B (settleAll env ev).plant := by
    show B (settle env (199 + 1) ev).plant
    unfold settle
    split
    · rename_i e; rw [e] at hr; cases hr
    · exact (settle_moves env False 199 _).keeps (P := fun x => B x.plant) keeps
        (takeReports_restored keeps hr (ev := { ev with reports := [] }) h done)
  have evaluated : B (if (settleAll env ev).evalDue then evaluate env (settleAll env ev)
      else settleAll env ev).plant := by
    split
    · exact (evaluate_moves env False _ False.elim).keeps (P := fun x => B x.plant) keeps settled
    · exact settled
  exact Moves.keeps (P := fun x => B x.plant) keeps (Moves.res .joins) evaluated

end Kept
end Completing

/-- The last turning fan comes to rest in RESTORE. -/
theorem runDownTimerOut_restored {s : State} {p : Point} {f : Fan} (hm : s.plant.mode = .restore) (ht : s.NoTest)
    (hf : s.plant.fan? p = some f) (hs : f.state = .runDown) (hr : f.runDown.isRunning = true)
    (hw : f.wantsRun = false)
    (ho : ∀ (q : Point) (g : Fan), q ≠ p → s.plant.fan? q = some g → g.state = .idle ∨ g.state = .fault) :
    let ev := runDownTimerOut p s.env (.start s.plant)
    ev.plant.Restored ∧ s.plant.SequencersOnly ev.plant ∧
      Report.fan p .idle (f.afterRunDown.norm (s.store.point p)).fault ∈ ev.reports := by
  have idle : f.afterRunDown.state = .idle := by simp [Fan.afterRunDown, hw]
  have event : runDownTimerOut p s.env (.start s.plant) = putFan s.env p f.afterRunDown (.start s.plant) := by
    unfold runDownTimerOut runDownEnds
    simp only [Ev.start_plant, hf, hr, hs, if_true]
  have frame : s.plant.SequencersOnly (putFan s.env p f.afterRunDown (.start s.plant)).plant :=
    putFan_frame sequencersOnly_frame s.env p _ (.start s.plant)
  dsimp only
  rw [event]
  refine ⟨⟨frame.1.trans hm, by rw [frame.2.1]; exact ht, ?_⟩, frame, ?_⟩
  · rw [restoreComplete, List.all_eq_true]
    intro q _
    rw [putFan_fan?]
    by_cases e : q = p
    · subst e
      simp [hf, idle]
    · rw [if_neg fun x => e x.1]
      cases hq : (Ev.start s.plant).plant.fan? q with
      | none => rfl
      | some g => rcases ho q g e hq with k | k <;> simp [k]
  · have k := putFan_reports (env := s.env) (f := f.afterRunDown) (ev := .start s.plant) hf (by rw [hs, idle]; decide)
    rw [idle] at k
    exact k

/-- Settles O18: the list's report resolves every point in FIRE (`runEvent_listReport_fire`) and in RESTORE, which a
turning fan keeps from completing (`runEvent_listReport_restore`), and the report of the last fan's rest completes it
(`finishEvent_restored`). -/
theorem restoreCycle : Obligations.RestoreCycle := by
  intro s hh
  refine ⟨fun z b2 b3 h hms hz hmem => ?_, fun e hm ht hl hlatch hiso hrun hraw hact hturn => ?_,
    fun p f hm ht hf hs hr hw ho => ?_⟩
  · let o : Order := ⟨OrderKind.zalm.code, byte z.val, b2, b3⟩
    let u : State := { s.taking .a o with alarms := portArrival z s.alarms }
    have hd : runOrder .zalm .a o (s.taking .a o) = done o (zonesFollow (s.taking .a o) u) := by
      show orderZalm .a o (s.taking .a o) = _
      unfold orderZalm
      simp only [o, zoneOf_byte, State.setPort_zone, hz, Bool.false_eq_true, if_false]
      rfl
    have list : portArrival z s.alarms = s.alarms ++ [{ zone := z, origin := .port, latched := true }] := by
      rw [portArrival_eq, if_neg hmem]
    have changed : (s.taking .a o).alarms ≠ u.alarms := by
      show s.alarms ≠ portArrival z s.alarms
      rw [list]
      simp
    refine ⟨_, exec_done (k := .zalm) h rfl hd, replied_demandsMarked rfl, fun p hk => ?_⟩
    have k := runEvent_listReport_fire
      (s := { u with ports := u.ports.markAll [] (changedZones (s.taking .a o) u) }) (portArrival_ne_nil _ _)
      (fun x => hms.2.mp x) (p := p) hk
    rw [← zonesFollow_of_list_ne changed] at k
    have demand : fireDemand u.env p (s.plant.chan p).normal = fireDemand
        { store := s.store, alarms := s.alarms ++ [{ zone := z, origin := .port, latched := true }] }
        p (s.plant.chan p).normal := by
      rw [← list]; rfl
    exact ⟨k.1.trans (congrArg (fun d => some d.action) demand), fun ha => (k.2 ha).trans (congrArg some demand)⟩
  · let l : ZoneLine := { s.zone e.zone with filter := { filtered := (s.zone e.zone).raw, timer := .idle } }
    let u : State := activityEvent (s.active e.zone) e.zone (s.setZone e.zone l)
    have run : exec (.zoneFilterTimerRunsOut e.zone) s = .next (zonesFollow s u) := by
      show Host.Outcome.next (s.unlessHeld (zoneTimerOut e.zone)) = _
      rw [State.unlessHeld, if_neg (by simp [hh]), zoneTimerOut, if_pos hrun]
      rfl
    have line : (s.setZone e.zone l).zone e.zone = l := State.zone_setZone_self ..
    have off : (s.setZone e.zone l).active e.zone = false := by
      have ne : (s.setZone e.zone l).active e.zone ≠ s.active e.zone := by
        rw [State.active, line]; exact activityOf_ne hraw
      rw [hact] at ne
      simpa using ne
    have list : u.alarms = [] := by
      rw [activityEvent_alarms, off, hact, if_neg (by rw [line]; simp [l, hiso]), if_neg (by decide)]
      show lineClear e.zone s.alarms = []
      simp [lineClear, hl, hlatch]
    have plant : u.plant = s.plant := activityEvent_plant ..
    have store : u.store = s.store := activityEvent_store ..
    have changed : s.alarms ≠ u.alarms := by rw [list, hl]; simp
    obtain ⟨q, f, hf, hturns, hrd⟩ := hturn
    obtain ⟨mode, points⟩ := runEvent_listReport_restore
      (s := { u with ports := u.ports.markAll [] (changedZones s u) }) (q := q) list
      (by show u.plant.mode = .fire; rw [plant]; exact hm) (by show u.plant.test.state ≠ .running; rw [plant]; exact ht)
      ⟨f, by show u.plant.fan? q = some f; rw [plant]; exact hf, hturns⟩
      (by show 0 < (u.store.point q).tRD; rw [store]; exact hrd)
    rw [← zonesFollow_of_list_ne changed] at mode points
    have told := zonesFollow_demandsMarked s u
    rw [State.DemandsMarked, plant] at told
    refine ⟨_, run, by rw [zonesFollow_alarms]; exact list, mode, told, fun p hk ho => ?_⟩
    have k := points p (by show u.store.kind p ≠ .unused; rw [store]; exact hk)
      (by show (u.plant.chan p).override = .auto; rw [plant]; exact ho)
    dsimp only at k
    rw [plant, store] at k
    refine ⟨k.1, k.2.trans ?_⟩
    unfold restoreDemand Store.kind
    cases (s.store.point p).kind <;> rfl
  · obtain ⟨restored, frame, reported⟩ := runDownTimerOut_restored hm ht hf hs hr hw ho
    have run : exec (.runDownTimerRunsOut p) s = .next (s.runEvent (runDownTimerOut p)) :=
      congrArg Host.Outcome.next (if_neg (by simp [hh]))
    obtain ⟨-, -, -, -, -, chans⟩ := frame
    have mode : (s.runEvent (runDownTimerOut p)).plant.Steady .normal :=
      finishEvent_restored (env := s.env) (fun _ _ u k => u.keeps_steady (by decide) k) reported restored
        (checkRestore_steady restored)
    have back (q : Point) (hk : s.store.kind q ≠ .unused) (hq : (s.plant.chan q).override = .auto) :
        (s.runEvent (runDownTimerOut p)).plant.BackToNormal s.env q (s.plant.chan q).normal :=
      finishEvent_restored (env := s.env) (fun _ _ u k => u.keeps_backToNormal hk k) reported restored
        (checkRestore_backToNormal hk restored (by rw [chans q]; exact hq) (by rw [chans q]))
    refine ⟨_, run, mode.1, State.runEvent_demandsMarked ?_, fun q hk hq => (back q hk hq).resolved⟩
    exact Ev.demandsTold_of_same (fun _ x => absurd x List.not_mem_nil) fun q => by rw [chans q]; rfl

end Sys2Proof.Machine
end

section
/-! SUPPORT and the statement about the equipment after device reset. At the hand-over every record stands as after reset:
no damper is OPEN and no fan is energised, so that no fan trips or stops turning and each point's hand-over changes that
point alone. -/

namespace Sys2Proof.Machine

/-! ## The demand handed to a record at rest -/

/-- A damper short of OPEN, or a fan in IDLE or RUNDOWN: a demand handed to it reaches no other point. -/
inductive Equipment.AtRest : Equipment → Prop
  | unused : AtRest .unused
  | damper {d : Damper} (h : d.pos ≠ .opened) : AtRest (.damper d)
  | fan {f : Fan} (h : f.state = .idle ∨ f.state = .runDown) : AtRest (.fan f)

/-- The record that a demand leaves of one at rest; `turning` says whether a path fan is turning. -/
def Equipment.handed (c : PointCfg) (turning : Bool) (x : Demand) : Equipment → Equipment
  | .unused => .unused
  | .damper d => .damper (d.takeDemand c turning x.action.damperEnd x.source)
  | .fan f => .fan (f.handedAtRest c x.action.fanWant x.source)

theorem Equipment.handed_damper (c : PointCfg) (b : Bool) (x : Demand) (d : Damper) :
    (Equipment.damper d).handed c b x = .damper (d.takeDemand c b x.action.damperEnd x.source) := rfl

theorem Equipment.handed_fan (c : PointCfg) (b : Bool) (x : Demand) (f : Fan) :
    (Equipment.fan f).handed c b x = .fan (f.handedAtRest c x.action.fanWant x.source) := rfl

/-- The record is of a fan that turns. -/
def Equipment.turns : Equipment → Bool
  | .fan f => f.state.turning
  | _ => false

theorem Plant.turning_eq (pl : Plant) (q : Point) : pl.turning q = (pl.chan q).unit.turns := by
  unfold Plant.turning Plant.fan? Channel.fan?
  cases (pl.chan q).unit <;> rfl

theorem anyPathFanTurning_congr {a b : Plant} (h : ∀ q, (a.chan q).unit.turns = (b.chan q).unit.turns) (st : Store)
    (p : Point) : anyPathFanTurning st a p = anyPathFanTurning st b p := by
  have e : a.turning = b.turning := funext fun q => by rw [Plant.turning_eq, Plant.turning_eq, h q]
  rw [anyPathFanTurning, anyPathFanTurning, e]

/-- A demand neither starts nor stops a fan at rest. -/
theorem Equipment.AtRest.handed_turns {u : Equipment} (h : u.AtRest) (c : PointCfg) (b : Bool) (x : Demand) :
    (u.handed c b x).turns = u.turns := by
  cases h with
  | unused => rfl
  | damper => rfl
  | fan hs =>
    rcases hs with hs | hs
    · by_cases hw : x.action.fanWant = .stop <;> simp [Equipment.handed, Equipment.turns, Fan.handedAtRest,
        Fan.norm_state, FanState.turning, hs, hw]
    · simp [Equipment.handed, Equipment.turns, Fan.handedAtRest, Fan.norm_state, hs]

theorem Equipment.afterReset_atRest (c : PointCfg) (ch : Channel) : (Equipment.afterReset c ch).AtRest := by
  cases h : Equipment.afterReset c ch with
  | unused => exact .unused
  | damper d => exact .damper (by rw [Equipment.afterReset_damper h]; decide)
  | fan f =>
    rw [(Equipment.afterReset_fan h).1]
    refine .fan ?_
    simp only [Fan.afterReset, Fan.norm_state]
    by_cases ht : c.tRD = 0 <;> simp [ht]

section Hand
variable {env : Env} {ev : Ev} {p : Point}

/-- A fan's record that turns as before is written at its own point alone. -/
theorem putFan_chan_of_turning {f o : Fan} (ho : ev.plant.fan? p = some o) (ht : f.state.turning = o.state.turning)
    {q : Point} (hne : q ≠ p) : (putFan env p f ev).plant.chan q = ev.plant.chan q := by
  obtain ⟨b, r, c, hc, e⟩ := putFan_eq env p f ho
  have stays : c = false := Bool.eq_false_iff.mpr fun x => by
    obtain ⟨before, after⟩ := hc x
    rw [ht, before] at after
    cases after
  subst stays
  rw [e, if_neg (by simp), reportIf_plant, schedulerFollows_chan, Ev.markIf_plant, Ev.setChan_plant,
    Plant.chan_setChan_ne _ _ hne]

theorem handDemand_atRest_ne (h : (ev.plant.chan p).unit.AtRest) (x : Demand) {q : Point} (hne : q ≠ p) :
    (handDemand env p x ev).plant.chan q = ev.plant.chan q := by
  generalize hu : (ev.plant.chan p).unit = u at h
  cases h with
  | unused => simp [handDemand, hu]
  | damper h =>
    rw [handDemand_damper hu h, putDamper_chan, if_neg fun e => hne e.1]
  | @fan o h =>
    have hf : ev.plant.fan? p = some o := Plant.fan?_eq_some.mpr hu
    have e : handDemand env p x ev = handFan env p x.action.fanWant x.source ev := by simp [handDemand, hu]
    rw [e]
    unfold handFan
    simp only [hf]
    rcases h with hs | hs <;> cases hw : x.action.fanWant <;> simp only [hs] <;>
      exact putFan_chan_of_turning hf (by simp [hs, FanState.turning]) hne

theorem handDemand_atRest_self (h : (ev.plant.chan p).unit.AtRest) (x : Demand) :
    ((handDemand env p x ev).plant.chan p).unit =
      (ev.plant.chan p).unit.handed (env.store.point p) (anyPathFanTurning env.store ev.plant p) x := by
  generalize hu : (ev.plant.chan p).unit = u at h
  cases h with
  | unused => simp [handDemand, hu, Equipment.handed]
  | damper h =>
    rw [handDemand_damper hu h, putDamper_chan_self _ (Plant.damper?_eq_some.mpr hu)]
    rfl
  | fan h =>
    rw [handDemand_fanAtRest hu h]
    rfl

/-! ## Points resolved one after the other -/

/-- The point holds a demand that was handed to `u`. -/
def Channel.HandedTo (c : Channel) (cfg : PointCfg) (turning : Bool) (u : Equipment) : Prop :=
  ∃ x, c.resolved = some x ∧ c.unit = u.handed cfg turning x

/-- A forced resolution of a point at rest hands it its demand, and leaves every other channel. -/
theorem resolvePoint_atRest (hk : env.store.kind p ≠ .unused) (h : (ev.plant.chan p).unit.AtRest) :
    ((resolvePoint env true ev p).plant.chan p).HandedTo (env.store.point p)
        (anyPathFanTurning env.store ev.plant p) (ev.plant.chan p).unit ∧
      ∀ q, q ≠ p → (resolvePoint env true ev p).plant.chan q = ev.plant.chan q := by
  obtain ⟨e, he, hz⟩ := resolvePoint_forced hk ev
  have unit : (e.plant.chan p).unit = (ev.plant.chan p).unit := by
    rw [he, Plant.chan_setChan_self, Channel.resolvedAt_eq]
  have others (q : Point) (hne : q ≠ p) : e.plant.chan q = ev.plant.chan q := by
    rw [he, Plant.chan_setChan_ne _ _ hne]
  have turning : anyPathFanTurning env.store e.plant p = anyPathFanTurning env.store ev.plant p :=
    anyPathFanTurning_congr (fun q => by
      by_cases hne : q = p
      · subst hne; rw [unit]
      · rw [others q hne]) _ _
  rw [← unit] at h
  rw [hz]
  obtain ⟨-, -, -, -, -, sides⟩ := handDemand_frame sequencersOnly_frame env p
    (resolution env ev.plant.mode p ((ev.plant.chan p).fireStored env ev.plant.mode p)) e
  refine ⟨⟨_, ?_, (handDemand_atRest_self h _).trans (by rw [unit, turning])⟩,
    fun q hne => (handDemand_atRest_ne h _ hne).trans (others q hne)⟩
  rw [sides p, he, Plant.chan_setChan_self]
  rfl

theorem Channel.HandedTo.turns {c : Channel} {cfg : PointCfg} {b : Bool} {u : Equipment} (h : c.HandedTo cfg b u)
    (hu : u.AtRest) : c.unit.turns = u.turns := by
  obtain ⟨x, -, e⟩ := h
  rw [e, hu.handed_turns]

/-- Distinct points at rest, resolved one after the other. -/
theorem resolveInOrder_atRest {l : List Point} (hn : l.Nodup)
    (hl : ∀ p ∈ l, env.store.kind p ≠ .unused ∧ (ev.plant.chan p).unit.AtRest) (q : Point) :
    (q ∉ l → (resolveInOrder env true l ev).plant.chan q = ev.plant.chan q) ∧
      (q ∈ l → ((resolveInOrder env true l ev).plant.chan q).HandedTo (env.store.point q)
        (anyPathFanTurning env.store ev.plant q) (ev.plant.chan q).unit) := by
  unfold resolveInOrder
  induction l generalizing ev with
  | nil => exact ⟨fun _ => rfl, fun h => absurd h List.not_mem_nil⟩
  | cons p ps ih =>
    obtain ⟨hp, hn⟩ := List.nodup_cons.mp hn
    obtain ⟨hk, rest⟩ := hl p List.mem_cons_self
    obtain ⟨self, others⟩ := resolvePoint_atRest hk rest
    have ne {r : Point} (hr : r ∈ ps) : r ≠ p := fun e => hp (e ▸ hr)
    have turning : anyPathFanTurning env.store (resolvePoint env true ev p).plant q =
        anyPathFanTurning env.store ev.plant q :=
      anyPathFanTurning_congr (fun r => by
        by_cases e : r = p
        · subst e; exact self.turns rest
        · rw [others r e]) _ _
    obtain ⟨out, into⟩ := ih (ev := resolvePoint env true ev p) hn fun r hr => by
      rw [others r (ne hr)]; exact hl r (List.mem_cons_of_mem _ hr)
    rw [List.foldl_cons]
    refine ⟨fun h => ?_, fun h => ?_⟩
    · obtain ⟨hne, hq⟩ := not_or.mp (fun x => h (List.mem_cons.mpr x))
      exact (out hq).trans (others q hne)
    · rcases List.mem_cons.mp h with rfl | hq
      · rw [out hp]; exact self
      · have k := into hq
        rwa [turning, others q (ne hq)] at k

/-- Every point resolved from a plant at rest. -/
theorem resolveAll_atRest (h : ∀ p, (ev.plant.chan p).unit.AtRest) (q : Point) :
    (env.store.kind q = .unused → (resolveAll env true ev).plant.chan q = ev.plant.chan q) ∧
      (env.store.kind q ≠ .unused → ((resolveAll env true ev).plant.chan q).HandedTo (env.store.point q)
        (anyPathFanTurning env.store ev.plant q) (ev.plant.chan q).unit) := by
  let e := storeAllLastFire env ev
  let l := inFreeOrder e.plant.draws (pointsToHand env true e)
  have mem (p : Point) : p ∈ l ↔ env.store.kind p ≠ .unused := by
    rw [(inFreeOrder_perm _ _).mem_iff, mem_pointsToHand]
    simp
  have nodup : l.Nodup := (inFreeOrder_perm _ _).nodup_iff.mpr ((List.nodup_finRange 64).filter _)
  have unit (p : Point) : (e.draw.plant.chan p).unit = (ev.plant.chan p).unit := by
    rw [Ev.draw_chan, storeAllLastFire_chan, Channel.fireStored_eq]
    split <;> rfl
  obtain ⟨out, into⟩ := resolveInOrder_atRest (env := env) (ev := e.draw) nodup
    (fun p hp => ⟨(mem p).mp hp, by rw [unit]; exact h p⟩) q
  refine ⟨fun hk => (out fun x => (mem q).mp x hk).trans ?_, fun hk => ?_⟩
  · rw [Ev.draw_chan, storeAllLastFire_chan, if_pos hk]
  · have turning : anyPathFanTurning env.store e.draw.plant q = anyPathFanTurning env.store ev.plant q :=
      anyPathFanTurning_congr (fun r => by rw [unit]) _ _
    have k := into ((mem q).mpr hk)
    rw [unit, turning] at k
    exact k

end Hand

/-! ## The end of a device reset -/

section Ends
variable (s : State)

/-- The event of the hand-over before its end. -/
abbrev State.handedAtReset : Ev := resolveAll s.blocksReset.env true (.start s.blocksReset.plant)

theorem deviceResetEnds_env : (deviceResetEnds s).env = s.blocksReset.env := by
  rw [State.env, deviceResetEnds_store, deviceResetEnds_alarms]
  rfl

theorem State.blocksReset_atRest (p : Point) : (s.blocksReset.plant.chan p).unit.AtRest := by
  rw [State.blocksReset_chan]; exact Equipment.afterReset_atRest ..

theorem State.handedAtReset_test : s.handedAtReset.plant.test.state ≠ .running := by
  rw [resolveAll_test]
  simp [State.blocksReset_plant, Plant.atReset, TestRecord.afterReset]

theorem State.handedAtReset_mode : s.handedAtReset.plant.mode ≠ .restore := by
  rw [resolveAll_mode, Ev.start_plant, State.blocksReset_mode]
  split <;> decide

/-- Only a fan with no time to run down can wait in the queue, and every other point keeps its channel to the end. -/
theorem deviceResetEnds_chan {p : Point}
    (h : s.blocksReset.store.kind p = .fan → 0 < (s.blocksReset.store.point p).tRD) :
    (deviceResetEnds s).plant.chan p = s.handedAtReset.plant.chan p := by
  have down : s.handedAtReset.plant.RunsDown s.blocksReset.store s.blocksReset.store.device.nALW :=
    (resolveAll_moves s.blocksReset.env True true (.start s.blocksReset.plant)).keeps
      (P := fun ev => ev.plant.RunsDown s.blocksReset.store s.blocksReset.store.device.nALW)
      (fun _ _ u k => u.keeps_runsDown (env := s.blocksReset.env) k) (by
        rw [Ev.start_plant, State.blocksReset_plant, State.blocksReset_store]
        exact Plant.atReset_runsDown ..)
  rw [deviceResetEnds_plant]
  refine finishEvent_chan s.handedAtReset_test s.handedAtReset_mode fun hq => ?_
  obtain ⟨hk, ht⟩ := down.queue p hq
  have := h hk
  omega

/-- Every FAN or DAMPER point holds the demand of R35. -/
theorem deviceResetEnds_holdsDemand {p : Point} (hk : s.blocksReset.store.kind p ≠ .unused) :
    (deviceResetEnds s).plant.HoldsDemand s.blocksReset.env p := by
  have k : s.handedAtReset.plant.HoldsDemand s.blocksReset.env p := resolveAll_holdsDemand hk true _
  obtain ⟨mode, chans⟩ := finishEvent_demands (env := s.blocksReset.env) s.handedAtReset_test s.handedAtReset_mode
  rw [deviceResetEnds_plant]
  show Plant.HoldsDemand _ p (finishEvent _ s.handedAtReset).plant
  rw [Plant.HoldsDemand, mode, chans p]
  exact k

/-- What a FAN or DAMPER point that cannot wait in the queue holds: the demand of R35, handed to its record of R49. -/
theorem deviceResetEnds_handedTo {p : Point} (hk : s.blocksReset.store.kind p ≠ .unused)
    (h : s.blocksReset.store.kind p = .fan → 0 < (s.blocksReset.store.point p).tRD) :
    ((deviceResetEnds s).plant.chan p).HandedTo (s.blocksReset.store.point p)
      (anyPathFanTurning s.blocksReset.store s.blocksReset.plant p)
      (.afterReset (s.blocksReset.store.point p) (s.plant.chan p)) := by
  have rest (r : Point) : ((Ev.start s.blocksReset.plant).plant.chan r).unit.AtRest := by
    rw [Ev.start_plant]; exact s.blocksReset_atRest r
  have k := (resolveAll_atRest (env := s.blocksReset.env) rest p).2 hk
  rw [Ev.start_plant, State.blocksReset_chan] at k
  rw [deviceResetEnds_chan s h]
  exact k

theorem Equipment.afterReset_of_fan {c : PointCfg} (h : c.kind = .fan) (ch : Channel) :
    Equipment.afterReset c ch = .fan (.afterReset c ch.fbb) := by rw [Equipment.afterReset, h]

theorem Equipment.afterReset_of_damper {c : PointCfg} (h : c.kind = .damper) (ch : Channel) :
    Equipment.afterReset c ch = .damper (.afterReset ch.fba ch.fbb) := by rw [Equipment.afterReset, h]

/-- A fan with a time to run down holds its demand in RUNDOWN. -/
theorem deviceResetEnds_fan {p : Point} {f : Fan} (hf : (deviceResetEnds s).plant.fan? p = some f)
    (ht : 0 < (s.blocksReset.store.point p).tRD) :
    f.state = .runDown ∧ f.runDown = .running (8 * (s.blocksReset.store.point p).tRD) 0 ∧ f.fault = .none := by
  have hk := (deviceResetEnds_runsDown s).kind_of_fan? hf
  rw [deviceResetEnds_store] at hk
  obtain ⟨x, -, unit⟩ := deviceResetEnds_handedTo s (by rw [hk]; decide) fun _ => ht
  rw [Equipment.afterReset_of_fan hk, Equipment.handed_fan, Fan.afterReset_handed ht, Plant.fan?_eq_some.mp hf] at unit
  rw [Equipment.fan.inj unit]
  exact ⟨rfl, rfl, rfl⟩

/-- Right after reset a fan with a time to run down turns. -/
theorem State.blocksReset_turning {q : Point} (hk : s.blocksReset.store.kind q = .fan)
    (ht : 0 < (s.blocksReset.store.point q).tRD) : s.blocksReset.plant.turning q = true := by
  rw [Plant.turning_eq, State.blocksReset_chan]
  show (Equipment.afterReset _ _).turns = true
  rw [Equipment.afterReset_of_fan hk]
  simp [Equipment.turns, Fan.afterReset, Fan.norm_state, Nat.pos_iff_ne_zero.mp ht, FanState.turning]

/-- CLOSE taken in UNPROVEN while a path fan turns, but under override (R67). -/
theorem Damper.afterReset_takeDemand_pos (c : PointCfg) (a b : Level) {src : Source} (h : src ≠ .override) :
    ((Damper.afterReset a b).takeDemand c true .closedEnd src).pos = .waitFan := by
  have ne : (src != .override) = true := by simpa using h
  simp [Damper.takeDemand, Damper.afterReset, Damper.enterWaitFan, ne]

/-- No point is under override. -/
theorem deviceResetEnds_source {p : Point} {x : Demand} (hx : ((deviceResetEnds s).plant.chan p).resolved = some x) :
    x.source ≠ .override := by
  obtain ⟨-, -, auto, -⟩ := deviceResetEnds_frame entriesKept_frame s p
  have fit := ((deviceResetEnds_overridesFit s).fits p id).2
  rw [hx, auto, State.blocksReset_chan] at fit
  intro h
  exact fit.mp (congrArg some h) rfl

/-- A damper demanded CLOSE behind a fan with a time to run down stands in WAITFAN. -/
theorem deviceResetEnds_damper {p q : Point} {d : Damper} {x : Demand}
    (hd : (deviceResetEnds s).plant.damper? p = some d)
    (hx : ((deviceResetEnds s).plant.chan p).resolved = some x) (hc : x.action = .toClose)
    (hq : q ∈ s.blocksReset.store.pathFans p) (ht : 0 < (s.blocksReset.store.point q).tRD) : d.pos = .waitFan := by
  have hu := Plant.damper?_eq_some.mp hd
  have hk : s.blocksReset.store.kind p = .damper := by
    rw [← deviceResetEnds_store, ← (deviceResetEnds_runsDown s).kinds p, hu]; rfl
  have turning : anyPathFanTurning s.blocksReset.store s.blocksReset.plant p = true :=
    List.any_eq_true.mpr ⟨q, hq, s.blocksReset_turning (Store.mem_pathFans.mp hq).1 ht⟩
  obtain ⟨y, hy, unit⟩ := deviceResetEnds_handedTo s (p := p) (by rw [hk]; decide) fun e => by rw [hk] at e; cases e
  obtain rfl : y = x := Option.some.inj (hy.symm.trans hx)
  rw [Equipment.afterReset_of_damper hk, turning, Equipment.handed_damper, hc, hu] at unit
  rw [Equipment.damper.inj unit]
  exact Damper.afterReset_takeDemand_pos _ _ _ (deviceResetEnds_source s hx)

end Ends

/-- Settles O59: the hand-over leaves every point that cannot wait in the queue as handed its demand right after reset
(`deviceResetEnds_handedTo`), with every fan's CMD de-energised out of STARTING, RUNNING and LOST (`interlock_law`). -/
theorem resetStateOfEquipment : Obligations.ResetStateOfEquipment := by
  intro s hw
  have store : s.blocksReset.store = s.store := by
    rw [State.blocksReset_store, State.linesReset_store, (endWriteByReset_store s).1 hw]
  have law := interlock_law.ends s
  have kinds := (deviceResetEnds_runsDown s).kinds
  rw [deviceResetEnds_store, store] at law kinds
  refine ⟨deviceResetEnds s, rfl, kinds, fun p hk => ?_, fun p hk => ⟨?_, ?_⟩, fun p f hf ht => ?_,
    fun p d x hd hx hc ⟨q, hq, ht⟩ => ?_⟩
  · rw [deviceResetEnds_env]
    exact deviceResetEnds_holdsDemand s (by rw [store]; exact hk)
  · exact ((deviceResetEnds_overridesFit s).fits p id).1 (by rw [deviceResetEnds_store, store]; exact hk)
  · rw [law.cmd p]
    have unused := (kinds p).trans hk
    cases hu : ((deviceResetEnds s).plant.chan p).unit <;> simp_all [Equipment.kind, Equipment.cmdAsked]
  · obtain ⟨state, timer, fault⟩ := deviceResetEnds_fan s hf (by rw [store]; exact ht)
    rw [store] at timer
    refine ⟨state, timer, fault, ?_⟩
    rw [law.cmd p, Plant.fan?_eq_some.mp hf]
    show f.state.energised = false
    rw [state]
    rfl
  · exact deviceResetEnds_damper s hd hx hc (by rw [store]; exact hq) (by rw [store]; exact ht)

end Sys2Proof.Machine
end

section
/-! SUPPORT. The damper record alone (chapter 3): what a stroke, a limit event, the stroke timer and a demand make of
it, by the limits that its arrangement reads; then the statement about limit events. -/

namespace Sys2Proof.Machine

/-! ## Limits and faults (R52, R65) -/

theorem openLimitActive_iff {c : PointCfg} {d : Damper} :
    openLimitActive c d = true ↔ c.feedback ≠ .timed ∧ d.fbaFilt.filtered = .low := by
  simp [openLimitActive, PointCfg.readsFba]

theorem closedLimitActive_iff {c : PointCfg} {d : Damper} :
    closedLimitActive c d = true ↔ c.feedback = .twoLimit ∧ d.fbbFilt.filtered = .low := by
  simp [closedLimitActive, PointCfg.readsFbb]

theorem Level.ne_low_iff {l : Level} : l ≠ .low ↔ l = .high := by cases l <;> decide

/-- The filtered level of the limit of an end. -/
def Damper.endLevel (d : Damper) : DamperEnd → Level
  | .openEnd => d.fbaFilt.filtered
  | .closedEnd => d.fbbFilt.filtered

theorem limitActive_twoLimit {c : PointCfg} (h : c.feedback = .twoLimit) (d : Damper) (e : DamperEnd) :
    limitActive c d e = true ↔ d.endLevel e = .low := by
  cases e
  · exact openLimitActive_iff.trans (by simp [h, Damper.endLevel])
  · exact closedLimitActive_iff.trans (by simp [h, Damper.endLevel])

theorem limitActive_openLimit {c : PointCfg} (h : c.feedback = .openLimit) (d : Damper) (e : DamperEnd) :
    limitActive c d e = true ↔ e = .openEnd ∧ d.fbaFilt.filtered = .low := by
  cases e
  · exact openLimitActive_iff.trans (by simp [h])
  · exact closedLimitActive_iff.trans (by simp [h])

theorem limitActive_timed {c : PointCfg} (h : c.feedback = .timed) (d : Damper) (e : DamperEnd) :
    limitActive c d e = false := by
  cases e <;> simp [limitActive, openLimitActive, closedLimitActive, PointCfg.readsFba, PointCfg.readsFbb, h]

/-- The fault field keeps the first fault (R65). -/
theorem Damper.recordFault_eq (x : DamperFault) (d : Damper) :
    d.recordFault x = { d with fault := if d.fault = .none then x else d.fault } := by
  unfold Damper.recordFault; split <;> rfl

/-! ## A stroke (R56) -/

/-- A stroke's beginning under every arrangement: the end is proven by its own limit alone, the limits conflict, or the
stroke is in progress. -/
theorem Damper.strokeTowards_eq (c : PointCfg) (e : DamperEnd) (d : Damper) :
    d.strokeTowards c e =
      if limitActive c d e = true then
        if limitActive c d e.other = true then
          { d.recordFault .conflict with pos := .unproven, timed := false, stroke := .load (8 * c.tSTK) }
        else d.proveByLimit e
      else { d with pos := e.moving, timed := false, stroke := .load (8 * c.tSTK) } := by
  cases hf : c.feedback with
  | twoLimit =>
    have active (e : DamperEnd) : limitActive c { d with timed := false, stroke := .load (8 * c.tSTK) } e =
      limitActive c d e := by cases e <;> rfl
    simp only [Damper.strokeTowards, hf, active, Bool.and_eq_true, Damper.recordFault_eq]
    by_cases h : limitActive c d e = true <;> simp [h, Damper.proveByLimit]
  | openLimit =>
    have other (h : e = .openEnd) : limitActive c d e.other = false := by
      rw [Bool.eq_false_iff, ne_eq, limitActive_openLimit hf, h]; simp [DamperEnd.other]
    have active : (e = .openEnd ∧ openLimitActive c { d with timed := false, stroke := .load (8 * c.tSTK) } = true) ↔
        limitActive c d e = true := by rw [limitActive_openLimit hf, openLimitActive_iff]; simp [hf]
    simp only [Damper.strokeTowards, hf, active]
    split
    · rename_i h
      obtain ⟨rfl, -⟩ := (limitActive_openLimit hf d e).mp h
      rw [other rfl]
      rfl
    · rfl
  | timed =>
    rw [limitActive_timed hf]
    simp only [Damper.strokeTowards, hf]
    rfl

theorem Damper.strokeTowards_of_inactive {c : PointCfg} {e : DamperEnd} {d : Damper}
    (h : limitActive c d e = false) :
    d.strokeTowards c e = { d with pos := e.moving, timed := false, stroke := .load (8 * c.tSTK) } := by
  rw [Damper.strokeTowards_eq, h]; rfl

theorem Damper.strokeTowards_held (c : PointCfg) (e : DamperEnd) (d : Damper) :
    (d.strokeTowards c e).held = d.held := by
  rw [Damper.strokeTowards_eq, Damper.recordFault_eq]
  split
  · split <;> rfl
  · rfl

theorem DamperEnd.moving_ne_waitFan (e : DamperEnd) : e.moving ≠ .waitFan := by cases e <;> decide

theorem DamperEnd.proven_ne_waitFan (e : DamperEnd) : e.proven ≠ .waitFan := by cases e <;> decide

/-- A stroke ends the close wait. -/
theorem Damper.strokeTowards_pos_ne (c : PointCfg) (e : DamperEnd) (d : Damper) :
    (d.strokeTowards c e).pos ≠ .waitFan := by
  rw [Damper.strokeTowards_eq]
  split
  · split
    · simp
    · exact e.proven_ne_waitFan
  · exact e.moving_ne_waitFan

/-! ## Limit events (R59, R60, R62 to R64) -/

theorem Damper.drift_eq {c : PointCfg} {d : Damper} {e : DamperEnd} (h : d.held.map DamperHeld.target = some e) :
    d.drift c = (d.recordFault .drift).strokeTowards c e := by
  obtain ⟨x, hx, rfl⟩ := Option.map_eq_some_iff.mp h
  simp [Damper.drift, hx]

/-- The release of a proven end, which the record is driven back to. -/
theorem Damper.drift_of_inactive {c : PointCfg} {d : Damper} {e : DamperEnd} (ht : 0 < c.tSTK)
    (h : d.held.map DamperHeld.target = some e) (ha : limitActive c d e = false) :
    d.drift c =
      { d with
        fault := if d.fault = .none then .drift else d.fault
        pos := e.moving
        timed := false
        stroke := .running (8 * c.tSTK) 0 } := by
  have same : limitActive c { d with fault := if d.fault = .none then .drift else d.fault } e = limitActive c d e := by
    cases e <;> rfl
  rw [Damper.drift_eq h, Damper.recordFault_eq, Damper.strokeTowards_of_inactive (by rw [same, ha]),
    Timer.load_pos (by omega)]

theorem Damper.leaveUnproven_eq {c : PointCfg} {d : Damper} {e : DamperEnd} (ht : 0 < c.tSTK)
    (h : d.held.map DamperHeld.target = some e) :
    d.leaveUnproven c =
      if limitActive c d e = true then d.proveByLimit e
      else
        { d with
          pos := e.moving
          stroke := if d.stroke.isRunning then d.stroke else .running (8 * c.tSTK) 0 } := by
  obtain ⟨x, hx, rfl⟩ := Option.map_eq_some_iff.mp h
  simp only [Damper.leaveUnproven, hx, Timer.load_pos (show 0 < 8 * c.tSTK by omega)]

theorem Damper.limitEvent_twoLimit {c : PointCfg} (h : c.feedback = .twoLimit) (i : LimitInput) (d : Damper) :
    d.limitEvent c i = d.limitEventTwoLimit c i := by simp [Damper.limitEvent, h]

theorem Damper.limitEvent_openLimit {c : PointCfg} (h : c.feedback = .openLimit) (i : LimitInput) (d : Damper) :
    d.limitEvent c i = d.limitEventOpenLimit c := by simp [Damper.limitEvent, h]

theorem Damper.limitEvent_timed {c : PointCfg} (h : c.feedback = .timed) (i : LimitInput) (d : Damper) :
    d.limitEvent c i = d := by simp [Damper.limitEvent, h]

/-- A conflict (R63). -/
theorem Damper.conflict_eq (d : Damper) :
    d.conflict =
      if d.pos = .waitFan then { d with fault := if d.fault = .none then .conflict else d.fault }
      else { d with fault := if d.fault = .none then .conflict else d.fault, pos := .unproven, timed := false } := by
  unfold Damper.conflict
  rw [Damper.recordFault_eq]

theorem Timer.isRunning_eq_false {t : Timer} : t.isRunning = false ↔ t = .idle := by cases t <;> simp

section TwoLimit
variable {c : PointCfg} (hf : c.feedback = .twoLimit) {d : Damper} (i : LimitInput)
include hf

/-- Both limits active. -/
theorem Damper.limitEvent_conflict (ha : d.fbaFilt.filtered = .low) (hb : d.fbbFilt.filtered = .low) :
    d.limitEvent c i = d.conflict := by
  have ho : openLimitActive c d = true := openLimitActive_iff.mpr ⟨by simp [hf], ha⟩
  have hc : closedLimitActive c d = true := closedLimitActive_iff.mpr ⟨hf, hb⟩
  simp [Damper.limitEvent_twoLimit hf, Damper.limitEventTwoLimit, ho, hc]

/-- At most one limit active, by position state. -/
theorem Damper.limitEvent_apart (h : d.fbaFilt.filtered = .high ∨ d.fbbFilt.filtered = .high) :
    (d.pos = .opening → d.limitEvent c i = if d.fbaFilt.filtered = .low then d.proveByLimit .openEnd else d) ∧
    (d.pos = .closing → d.limitEvent c i = if d.fbbFilt.filtered = .low then d.proveByLimit .closedEnd else d) ∧
    (d.pos = .opened → d.limitEvent c i = if i = .fba ∧ d.fbaFilt.filtered = .high then d.drift c else d) ∧
    (d.pos = .closed → d.limitEvent c i = if i = .fbb ∧ d.fbbFilt.filtered = .high then d.drift c else d) ∧
    (d.pos = .waitFan → d.limitEvent c i = d) ∧
    (d.pos = .unproven → d.limitEvent c i = d.leaveUnproven c) := by
  have ho : openLimitActive c d = (d.fbaFilt.filtered == .low) := by
    simp [openLimitActive, PointCfg.readsFba, hf]
  have hc : closedLimitActive c d = (d.fbbFilt.filtered == .low) := by
    simp [closedLimitActive, PointCfg.readsFbb, hf]
  have apart : (openLimitActive c d && closedLimitActive c d) = false := by
    rcases h with h | h <;> simp [ho, hc, h]
  rw [Damper.limitEvent_twoLimit hf, Damper.limitEventTwoLimit, apart, ho, hc]
  refine ⟨fun hp => ?_, fun hp => ?_, fun hp => ?_, fun hp => ?_, fun hp => ?_, fun hp => ?_⟩ <;>
    simp [hp, Level.ne_low_iff]

end TwoLimit

section OpenLimit
variable {c : PointCfg} (hf : c.feedback = .openLimit) {d : Damper} (i : LimitInput)
include hf

/-- Under OPEN-LIMIT, by position state. -/
theorem Damper.limitEvent_openLimit_cases :
    (d.pos = .opening → d.limitEvent c i = if d.fbaFilt.filtered = .low then d.proveByLimit .openEnd else d) ∧
    (d.pos = .closing →
      d.limitEvent c i = if d.fbaFilt.filtered = .high ∧ d.stroke = .idle then d.proveByTime .closedEnd else d) ∧
    (d.pos = .opened → d.limitEvent c i = if d.fbaFilt.filtered = .high then d.drift c else d) ∧
    (d.pos = .closed → d.limitEvent c i = if d.fbaFilt.filtered = .low then d.drift c else d) ∧
    (d.pos = .waitFan → d.limitEvent c i = d) ∧
    (d.pos = .unproven → d.limitEvent c i = d.leaveUnproven c) := by
  have ho : openLimitActive c d = (d.fbaFilt.filtered == .low) := by
    simp [openLimitActive, PointCfg.readsFba, hf]
  rw [Damper.limitEvent_openLimit hf, Damper.limitEventOpenLimit, ho]
  refine ⟨fun hp => ?_, fun hp => ?_, fun hp => ?_, fun hp => ?_, fun hp => ?_, fun hp => ?_⟩ <;>
    simp only [hp, beq_iff_eq, beq_eq_false_iff_ne, ne_eq, Level.ne_low_iff, Timer.isRunning_eq_false]
  cases d.fbaFilt.filtered <;> simp

end OpenLimit

/-- Settles O21: the position state decides (`Damper.limitEvent_apart`, `Damper.limitEvent_openLimit_cases`), and a
drift strokes back to an end whose limit is not active (`Damper.drift_of_inactive`). -/
theorem limitEventsOfTwoLimits : Obligations.LimitEventsOfTwoLimits := by
  intro c d ht
  dsimp only
  have drifts {e : DamperEnd} (hh : d.held.map DamperHeld.target = some e) (ha : limitActive c d e = false) :=
    Damper.drift_of_inactive ht hh ha
  refine ⟨fun hf => ⟨fun i ha hb => ?_, fun i h => ?_⟩, fun hf i => ?_, fun hf i => Damper.limitEvent_timed hf i d⟩
  · rw [Damper.limitEvent_conflict hf i ha hb, Damper.conflict_eq]
    exact ⟨fun hp => if_neg hp, fun hp => if_pos hp⟩
  · obtain ⟨opening, closing, opened, closed, waitFan, unproven⟩ := Damper.limitEvent_apart hf i h
    have inactive {e : DamperEnd} (hl : d.endLevel e = .high) : limitActive c d e = false := by
      rw [Bool.eq_false_iff, ne_eq, limitActive_twoLimit hf, hl]; decide
    refine ⟨opening, closing, fun hp hh => ?_, fun hp hh => ?_, waitFan, fun e hp hh => ?_⟩
    · rw [opened hp]
      exact ite_congr rfl (fun x => drifts hh (inactive x.2)) fun _ => rfl
    · rw [closed hp]
      exact ite_congr rfl (fun x => drifts hh (inactive x.2)) fun _ => rfl
    · rw [unproven hp, Damper.leaveUnproven_eq ht hh]
      exact if_congr ((limitActive_twoLimit hf d e).trans (by cases e <;> exact Iff.rfl)) rfl rfl
  · obtain ⟨opening, closing, opened, closed, waitFan, unproven⟩ := Damper.limitEvent_openLimit_cases hf (d := d) i
    refine ⟨opening, fun hp => ?_, fun hp hh => ?_, fun hp hh => ?_, waitFan, fun e hp hh => ?_⟩
    · rw [closing hp]
      exact ite_congr rfl (fun x => by rw [Damper.proveByTime, ← x.2]; rfl) fun _ => rfl
    · rw [opened hp]
      refine ite_congr rfl (fun x => drifts hh ?_) fun _ => rfl
      rw [Bool.eq_false_iff, ne_eq, limitActive_openLimit hf, x]; decide
    · rw [closed hp]
      refine ite_congr rfl (fun x => drifts hh ?_) fun _ => rfl
      rw [Bool.eq_false_iff, ne_eq, limitActive_openLimit hf]; simp
    · rw [unproven hp, Damper.leaveUnproven_eq ht hh]
      exact if_congr (limitActive_openLimit hf d e) rfl rfl

end Sys2Proof.Machine
end

section
/-! SUPPORT. Damper records as Table 3-2 gives them: what a limit event, the stroke timer, EQRS and a demand leave of
such a record is again such a record, and only a CLOSE demand that meets a turning fan puts a damper in WAITFAN. -/

namespace Sys2Proof.Machine

/-- A damper record as Table 3-2 gives it; in WAITFAN `T` holds of it and its source is not OVERRIDE (R67). -/
structure Damper.Fit (T : Prop) (d : Damper) : Prop where
  table : d.TableSound
  waits : d.pos = .waitFan → T ∧ d.held.map DamperHeld.source ≠ some .override

section Records
variable {T : Prop} {c : PointCfg} {d : Damper}

theorem Damper.fit_of_ne (h : d.TableSound) (hp : d.pos ≠ .waitFan) : d.Fit T := ⟨h, fun x => absurd x hp⟩

theorem Damper.Fit.imp {U : Prop} (h : d.Fit T) (k : T → U) : d.Fit U :=
  ⟨h.table, fun x => (h.waits x).imp_left k⟩

/-- A record in the same position, under the same demand and TIMED flag. -/
theorem Damper.Fit.congr {x : Damper} (h : d.Fit T) (hp : x.pos = d.pos) (hh : x.held = d.held)
    (ht : x.timed = d.timed)
    (hs : x.pos = .opened ∨ x.pos = .closed ∨ x.pos = .waitFan → d.stroke = .idle → x.stroke = .idle) :
    x.Fit T := by
  obtain ⟨⟨h1, h2, h3, h4⟩, h5⟩ := h
  refine ⟨⟨fun y => hs y (h1 (hp ▸ y)), ?_, ?_, ?_⟩, ?_⟩ <;> rw [hp]
  · rw [ht]; exact h2
  · rw [hh]; exact h3
  · rw [hh]; exact h4
  · rw [hh]; exact h5

theorem Damper.unproven_fit (hp : d.pos = .unproven) (ht : d.timed = false) : d.Fit T :=
  Damper.fit_of_ne (by simp [Damper.TableSound, hp, ht]) (by simp [hp])

theorem Damper.moving_fit {e : DamperEnd} (hp : d.pos = e.moving) (ht : d.timed = false)
    (hh : d.held.map DamperHeld.target = some e) : d.Fit T := by
  refine Damper.fit_of_ne ?_ (hp ▸ e.moving_ne_waitFan)
  cases e <;> simp [Damper.TableSound, hp, ht, hh, DamperEnd.moving]

theorem Damper.proven_fit {e : DamperEnd} (hp : d.pos = e.proven) (hs : d.stroke = .idle)
    (hh : d.held.map DamperHeld.target = some e) : d.Fit T := by
  refine Damper.fit_of_ne ?_ (hp ▸ e.proven_ne_waitFan)
  cases e <;> simp [Damper.TableSound, hp, hs, hh, DamperEnd.proven]

/-- A stroke towards the held demand's end (R56). -/
theorem Damper.strokeTowards_fit {e : DamperEnd} (hh : d.held.map DamperHeld.target = some e) :
    (d.strokeTowards c e).Fit T := by
  rw [Damper.strokeTowards_eq]
  split
  · split
    · exact Damper.unproven_fit rfl rfl
    · exact Damper.proven_fit rfl rfl hh
  · exact Damper.moving_fit rfl rfl hh

section Sound
variable (h : d.Fit T)
include h

theorem Damper.Fit.held_open (hp : d.pos = .opening ∨ d.pos = .opened) :
    d.held.map DamperHeld.target = some .openEnd := by
  obtain ⟨-, -, k, -⟩ := h.table
  exact k hp

theorem Damper.Fit.held_closed (hp : d.pos = .closing ∨ d.pos = .closed ∨ d.pos = .waitFan) :
    d.held.map DamperHeld.target = some .closedEnd := by
  obtain ⟨-, -, -, k⟩ := h.table
  exact k hp

/-- Short of a proven position TIMED is clear. -/
theorem Damper.Fit.timed_eq_false (ho : d.pos ≠ .opened) (hc : d.pos ≠ .closed) : d.timed = false := by
  obtain ⟨-, k, -, -⟩ := h.table
  exact Bool.eq_false_iff.mpr fun x => (k x).elim ho hc

theorem Damper.Fit.recordFault (x : DamperFault) : (d.recordFault x).Fit T := by
  rw [Damper.recordFault_eq]
  exact h.congr rfl rfl rfl fun _ y => y

theorem Damper.Fit.setFilt (i : LimitInput) (f : Filter) : (d.setFilt i f).Fit T := by
  cases i <;> exact h.congr rfl rfl rfl fun _ y => y

theorem Damper.Fit.conflict : d.conflict.Fit T := by
  rw [Damper.conflict_eq]
  split
  · exact h.congr rfl rfl rfl fun _ y => y
  · exact Damper.unproven_fit rfl rfl

theorem Damper.Fit.drift : (d.drift c).Fit T := by
  unfold Damper.drift
  split
  · rename_i x hx
    refine Damper.strokeTowards_fit ?_
    rw [Damper.recordFault_eq, hx]; rfl
  · exact h

theorem Damper.Fit.leaveUnproven (hp : d.pos = .unproven) : (d.leaveUnproven c).Fit T := by
  unfold Damper.leaveUnproven
  split
  · exact h
  · rename_i x hx
    have hh : d.held.map DamperHeld.target = some x.target := by rw [hx]; rfl
    split
    · exact Damper.proven_fit rfl rfl hh
    · exact Damper.moving_fit rfl (h.timed_eq_false (by simp [hp]) (by simp [hp])) hh

/-- A limit event (R59, R60, R62 to R64). -/
theorem Damper.Fit.limitEvent (i : LimitInput) : (d.limitEvent c i).Fit T := by
  have proves {e : DamperEnd} (hh : d.held.map DamperHeld.target = some e) : (d.proveByLimit e).Fit T :=
    Damper.proven_fit rfl rfl hh
  unfold Damper.limitEvent
  split
  · unfold Damper.limitEventTwoLimit
    split
    · exact h.conflict
    · split <;> rename_i hp
      · split
        · exact proves (h.held_open (.inl hp))
        · exact h
      · split
        · exact proves (h.held_closed (.inl hp))
        · exact h
      · split
        · exact h.drift
        · exact h
      · split
        · exact h.drift
        · exact h
      · exact h.leaveUnproven hp
      · exact h
  · unfold Damper.limitEventOpenLimit
    split <;> rename_i hp
    · split
      · exact proves (h.held_open (.inl hp))
      · exact h
    · split
      · exact Damper.proven_fit (e := .closedEnd) rfl rfl (h.held_closed (.inl hp))
      · exact h
    · split
      · exact h
      · exact h.drift
    · split
      · exact h.drift
      · exact h
    · exact h.leaveUnproven hp
    · exact h
  · exact h

/-- The stroke timer's running-out towards the held demand's end (R60, R61). -/
theorem Damper.Fit.strokeRunsOutTowards {e : DamperEnd} (hh : d.held.map DamperHeld.target = some e) :
    (d.strokeRunsOutTowards c e).Fit T := by
  unfold Damper.strokeRunsOutTowards
  split
  · exact h.recordFault _
  · split
    · rename_i x
      exact Damper.proven_fit (e := .closedEnd) rfl rfl (by rw [← x.1]; exact hh)
    · exact h.recordFault _
  · exact Damper.proven_fit (e := e) rfl rfl hh

theorem Damper.Fit.strokeRunsOut : (d.strokeRunsOut c).Fit T := by
  have k : Damper.Fit T { d with stroke := .idle } := h.congr rfl rfl rfl fun _ _ => rfl
  unfold Damper.strokeRunsOut
  dsimp only
  split <;> rename_i hp
  · exact k.strokeRunsOutTowards (h.held_open (.inl hp))
  · exact k.strokeRunsOutTowards (h.held_closed (.inl hp))
  · exact k.recordFault _
  · exact k
  · exact k
  · exact k

/-- EQRS (R66): the stroke timer is loaded short of a proven position alone. -/
theorem Damper.Fit.clearFault : (d.clearFault c).Fit T := by
  refine h.congr rfl rfl rfl fun hp hs => ?_
  have proven : ¬(d.pos = .opening ∨ d.pos = .closing ∨ d.pos = .unproven) := by
    change d.pos = .opened ∨ d.pos = .closed ∨ d.pos = .waitFan at hp
    rcases hp with hp | hp | hp <;> simp [hp]
  exact (if_neg fun x => proven x.1).trans hs

theorem Damper.Fit.tick : d.tick.Fit T :=
  h.congr rfl rfl rfl fun _ hs => by rw [Damper.tick, hs]; rfl

/-- A demand (R55, R57, R58, R67): a damper that waits then has a fan that turns, or waited before. -/
theorem Damper.Fit.takeDemand {turning : Bool} (ht : turning = true → T) (e : DamperEnd) (src : Source) :
    (d.takeDemand c turning e src).Fit T := by
  unfold Damper.takeDemand
  dsimp only
  split
  · rename_i hh
    split
    · rename_i w
      exact Damper.strokeTowards_fit (congrArg some w.2.1)
    · rename_i stays
      obtain ⟨⟨h1, h2, h3, h4⟩, h5⟩ := h
      rw [hh] at h3 h4
      refine ⟨⟨h1, h2, h3, h4⟩, fun hp => ⟨(h5 hp).1, fun hs => ?_⟩⟩
      exact stays ⟨hp, Option.some.inj (h4 (.inr (.inr hp))), Option.some.inj hs⟩
  · split
    · exact Damper.strokeTowards_fit rfl
    · split
      · rename_i w
        simp only [Bool.and_eq_true, bne_iff_ne] at w
        exact ⟨by simp [Damper.TableSound, Damper.enterWaitFan], fun _ => ⟨ht w.1, fun hs => w.2 (Option.some.inj hs)⟩⟩
      · exact Damper.strokeTowards_fit rfl

end Sound

end Records

theorem Damper.afterReset_fit (T : Prop) (a b : Level) : (Damper.afterReset a b).Fit T :=
  Damper.unproven_fit rfl rfl

end Sys2Proof.Machine
end

section
/-! SUPPORT. The dampers through the operations of the two sequencers: a fan that stops turning is followed by the
release of the dampers that waited on it (`releaseWaiting_dampersFit`), so that every operation leaves each damper in
WAITFAN behind a path fan that turns. -/

namespace Sys2Proof.Machine

/-! ## The law, but for dampers whose release is still to come -/

/-- Every damper record is as Table 3-2 gives it, and a damper in WAITFAN has a path fan that turns, or its release is
still to come (`X`). -/
structure Plant.DampersFit (st : Store) (X : Point → Prop) (pl : Plant) : Prop where
  fit : ∀ p d, pl.damper? p = some d → d.Fit (X p ∨ anyPathFanTurning st pl p = true)

/-- The law with no release to come. -/
abbrev Plant.DampersWell (st : Store) (pl : Plant) : Prop := pl.DampersFit st noPoint

theorem anyPathFanTurning_iff {st : Store} {pl : Plant} {p : Point} :
    anyPathFanTurning st pl p = true ↔ ∃ q ∈ st.pathFans p, pl.turning q = true := List.any_eq_true

theorem Plant.fan?_of_damper? {pl : Plant} {p : Point} {d : Damper} (h : pl.damper? p = some d) : pl.fan? p = none := by
  simp [Plant.fan?, Channel.fan?, Plant.damper?_eq_some.mp h]

theorem Plant.turning_of_fan? {a b : Plant} {q : Point} (h : b.fan? q = a.fan? q) : b.turning q = a.turning q := by
  rw [Plant.turning, h, Plant.turning]

section Rules
variable {st : Store} {X : Point → Prop} {a b : Plant} (h : a.DampersFit st X)
include h

theorem Plant.DampersFit.mono {Y : Point → Prop} (k : ∀ p, X p → Y p) : a.DampersFit st Y :=
  ⟨fun p d hd => (h.fit p d hd).imp fun x => x.imp_left (k p)⟩

/-- The dampers as they were, and every fan that turned turns. -/
theorem Plant.DampersFit.congr (hd : ∀ q, b.damper? q = a.damper? q)
    (ht : ∀ q, a.turning q = true → b.turning q = true) : b.DampersFit st X := by
  refine ⟨fun p d hp => ?_⟩
  rw [hd] at hp
  refine (h.fit p d hp).imp fun x => x.imp_right fun y => ?_
  obtain ⟨q, hq, k⟩ := anyPathFanTurning_iff.mp y
  exact anyPathFanTurning_iff.mpr ⟨q, hq, ht q k⟩

theorem Plant.DampersFit.of_units (hu : ∀ q, (b.chan q).unit = (a.chan q).unit) : b.DampersFit st X :=
  h.congr (fun q => by simp [Plant.damper?, Channel.damper?, hu q]) fun q => by
    rw [Plant.turning_eq, Plant.turning_eq, hu q]; exact id

theorem Plant.DampersFit.unitsKept (k : a.UnitsKept b) : b.DampersFit st X := h.of_units fun q => (k.1 q).1

/-- A fan's record written in its state. -/
theorem Plant.DampersFit.setFan_same {p : Point} {o f : Fan} (ho : a.fan? p = some o) (hs : f.state = o.state) :
    (a.setChan p { a.chan p with unit := .fan f }).DampersFit st X := by
  refine h.congr (fun q => ?_) fun q => ?_
  · rw [Plant.damper?_setChan]
    split
    · rename_i e; subst e; exact (Plant.damper?_of_fan? ho).symm
    · rfl
  · rw [Plant.turning_eq, Plant.turning_eq, Plant.chan_setChan]
    split
    · rename_i e; subst e; rw [Plant.fan?_eq_some.mp ho]; simp [Equipment.turns, hs]
    · exact id

end Rules

/-! ## The operations -/

section Operations
variable {env : Env} {X : Point → Prop} {ev : Ev}

theorem putDamper_turning (p : Point) (d : Damper) (st : Store) (q : Point) :
    anyPathFanTurning st (putDamper env p d ev).plant q = anyPathFanTurning st ev.plant q :=
  anyPathFanTurning_congr (fun x => by
    rw [← Plant.turning_eq, ← Plant.turning_eq]; exact Plant.turning_of_fan? (putDamper_fan? ..)) st q

/-- A damper's record written, whose own release may have been to come. -/
theorem putDamper_dampersFit {Y : Point → Prop} (h : ev.plant.DampersFit env.store X) {p : Point} {d : Damper}
    (hd : d.Fit (Y p ∨ anyPathFanTurning env.store ev.plant p = true)) (hY : ∀ q, q ≠ p → X q → Y q) :
    (putDamper env p d ev).plant.DampersFit env.store Y := by
  refine ⟨fun q x hx => ?_⟩
  rw [putDamper_turning]
  by_cases e : q = p
  · subst e
    cases ho : ev.plant.damper? q with
    | none => rw [putDamper_plant, ho] at hx; rw [if_neg (by simp), ho] at hx; cases hx
    | some o => rw [putDamper_damper?_self env d ho] at hx; cases hx; exact hd
  · rw [putDamper_damper?_ne env d ev e] at hx
    exact (h.fit q x hx).imp fun y => y.imp_left (hY q e)

/-- A damper tested for its release waits no longer, or behind a fan that turns (R68). -/
theorem releaseOne_dampersFit {Y : Point → Prop} (h : ev.plant.DampersFit env.store X) (p : Point)
    (hY : ∀ q, q ≠ p → X q → Y q) : (releaseOne env ev p).plant.DampersFit env.store Y := by
  have stays (hp : ∀ d, ev.plant.damper? p = some d →
      d.pos ≠ .waitFan ∨ anyPathFanTurning env.store ev.plant p = true) : ev.plant.DampersFit env.store Y := by
    refine ⟨fun q d hd => ?_⟩
    have k := h.fit q d hd
    by_cases e : q = p
    · subst e
      exact ⟨k.table, fun hw => ⟨.inr ((hp d hd).resolve_left fun x => x hw), (k.waits hw).2⟩⟩
    · exact k.imp fun y => y.imp_left (hY q e)
  unfold releaseOne
  split
  · rename_i hn
    exact stays fun d hd => by rw [hn] at hd; cases hd
  · rename_i d hd
    split
    · rename_i w
      exact putDamper_dampersFit h (Damper.strokeTowards_fit ((h.fit p d hd).held_closed (.inr (.inr w.1)))) hY
    · rename_i w
      refine stays fun x hx => ?_
      rw [hd] at hx
      cases hx
      by_cases hw : d.pos = .waitFan
      · exact .inr (by simpa [hw] using w)
      · exact .inl hw

theorem releases_dampersFit (l : List Point) (h : ev.plant.DampersFit env.store (· ∈ l)) :
    (l.foldl (releaseOne env) ev).plant.DampersWell env.store := by
  induction l generalizing ev with
  | nil => exact h.mono fun q x => absurd x List.not_mem_nil
  | cons p ps ih => exact ih (releaseOne_dampersFit h p fun q hq x => (List.mem_cons.mp x).resolve_left hq)

/-- Once every damper in WAITFAN has been tested again no release is to come (R68). -/
theorem releaseWaiting_dampersFit (h : ev.plant.DampersFit env.store X) :
    (releaseWaiting env ev).plant.DampersWell env.store :=
  releases_dampersFit allPoints (h.mono fun q _ => by simp [allPoints])

/-- A fan's record written: its channel, and the release when it stops turning. -/
theorem putFan_released (env : Env) {p : Point} (f : Fan) {ev : Ev} {o : Fan} (h : ev.plant.fan? p = some o) :
    ∃ x : Ev,
      (∀ q, x.plant.chan q =
        if q = p then { ev.plant.chan p with unit := .fan (f.norm (env.store.point p)), cmd := f.state.energised }
        else ev.plant.chan q) ∧
      putFan env p f ev = if o.state.turning && !f.state.turning then releaseWaiting env x else x := by
  have reported (c : Prop) [Decidable c] (r : Report) (y : Ev) : (if c then y.report r else y).plant = y.plant := by
    split <;> rfl
  unfold putFan
  simp only [h, Fan.norm_state]
  refine ⟨_, fun q => (congrArg (Plant.chan · q) (reported ..)).trans ?_, rfl⟩
  rw [schedulerFollows_chan, Ev.markIf_plant, Ev.setChan_plant, Plant.chan_setChan]

section Fans
variable (h : ev.plant.DampersFit env.store X)
include h

/-- A fan's record may be written at any time. -/
theorem putFan_dampersFit (p : Point) (f : Fan) : (putFan env p f ev).plant.DampersFit env.store X := by
  cases ho : ev.plant.fan? p with
  | none => rw [show putFan env p f ev = ev by simp [putFan, ho]]; exact h
  | some o =>
    obtain ⟨x, hx, e⟩ := putFan_released env f ho
    have damper (q : Point) : x.plant.damper? q = ev.plant.damper? q := by
      rw [Plant.damper?, hx]
      split
      · rename_i e; subst e; exact (Plant.damper?_of_fan? ho).symm
      · rfl
    rw [e]
    split
    · refine (releaseWaiting_dampersFit (X := fun _ => True) ⟨fun q d hd => ?_⟩).mono fun _ x => x.elim
      rw [damper] at hd
      exact (h.fit q d hd).imp fun _ => .inl trivial
    · rename_i c
      refine h.congr damper fun q => ?_
      rw [Plant.turning_eq, Plant.turning_eq, hx]
      split
      · rename_i e
        subst e
        rw [Plant.fan?_eq_some.mp ho]
        simpa [Equipment.turns] using c
      · exact id

theorem runDownEnds_dampersFit (p : Point) : (runDownEnds env p ev).plant.DampersFit env.store X := by
  unfold runDownEnds
  split
  · exact h
  · split
    · exact putFan_dampersFit h ..
    · exact h

theorem enterRunDown_dampersFit (p : Point) : (enterRunDown env p ev).plant.DampersFit env.store X := by
  unfold enterRunDown
  split
  · exact h
  · dsimp only
    split
    · exact runDownEnds_dampersFit (putFan_dampersFit h ..) p
    · exact putFan_dampersFit h ..

theorem interlockTrip_dampersFit (q : Point) : (interlockTrip env ev q).plant.DampersFit env.store X := by
  unfold interlockTrip
  split
  · exact h
  · split
    · exact enterRunDown_dampersFit h q
    · exact h

theorem tripPathFans_dampersFit (p : Point) : (tripPathFans env p ev).plant.DampersFit env.store X :=
  foldl_keeps (P := Plant.DampersFit env.store X) (fun _ q k => interlockTrip_dampersFit k q) _ h

end Fans

section Kept
variable (h : ev.plant.DampersWell env.store)
include h

/-- A damper's record written with what follows: the record as the fans stand when it is written. -/
theorem putDamper_dampersWell {p : Point} {d : Damper}
    (hd : d.Fit (noPoint p ∨ anyPathFanTurning env.store ev.plant p = true)) :
    (putDamper env p d ev).plant.DampersWell env.store := putDamper_dampersFit h hd fun _ _ x => x

theorem moveDamper_dampersFit {p : Point} {d : Damper}
    (hd : d.Fit (noPoint p ∨ anyPathFanTurning env.store ev.plant p = true)) :
    (moveDamper env p d ev).plant.DampersWell env.store := by
  unfold moveDamper
  dsimp only
  split
  · exact tripPathFans_dampersFit (putDamper_dampersWell h hd) p
  · exact putDamper_dampersWell h hd

theorem handDamper_dampersFit (p : Point) (e : DamperEnd) (src : Source) :
    (handDamper env p e src ev).plant.DampersWell env.store := by
  unfold handDamper
  split
  · exact h
  · rename_i d hd
    exact moveDamper_dampersFit h ((h.fit p d hd).takeDemand .inr e src)

theorem handFan_dampersFit (p : Point) (w : FanWant) (src : Source) :
    (handFan env p w src ev).plant.DampersWell env.store := by
  have takes (f : Fan) :
      (let x := putFan env p f ev
      if src ≠ .override ∧ pathOpen env.store x.plant p = false then enterRunDown env p x
      else x).plant.DampersWell env.store := by
    dsimp only
    split
    · exact enterRunDown_dampersFit (putFan_dampersFit h p f) p
    · exact putFan_dampersFit h p f
  unfold handFan
  split
  · exact h
  · dsimp only
    split
    iterate 3 · exact putFan_dampersFit h ..
    iterate 3 · exact takes _
    iterate 3 · exact enterRunDown_dampersFit (putFan_dampersFit h ..) p
    iterate 3 · exact putFan_dampersFit h ..

theorem handDemand_dampersFit (p : Point) (x : Demand) :
    (handDemand env p x ev).plant.DampersWell env.store := by
  unfold handDemand
  split
  · exact h
  · exact handDamper_dampersFit h ..
  · exact handFan_dampersFit h ..

/-- The supply trip (R88, R116). -/
theorem supplyTrip_dampersFit : (supplyTrip env ev).plant.DampersWell env.store := by
  have trips : (allPoints.foldl (supplyTripOne env) ev).plant.DampersWell env.store := by
    refine foldl_keeps (P := Plant.DampersWell env.store) (fun x q k => ?_) _ h
    unfold supplyTripOne
    split
    · exact k
    · split
      · exact enterRunDown_dampersFit k q
      · exact k
  unfold supplyTrip
  generalize allPoints.foldl (supplyTripOne env) ev = x at trips ⊢
  exact trips.of_units fun q => by rw [testPendingLimit_chan, Ev.withSched_chan]

/-- The evaluation stops no fan (R105 to R108). -/
theorem evaluate_dampersFit : (evaluate env ev).plant.DampersWell env.store :=
  evaluationWalk_keeps (P := Plant.DampersWell env.store) (fun _ _ _ _ _ hf k => k.setFan_same hf rfl)
    (fun p _ x f _ k =>
      (putFan_dampersFit k p (f.started (env.store.point p))).of_units (b := (startFan env p f x).plant) fun _ => rfl)
    _ h

end Kept

end Operations

theorem dampersFit_handLaw (env : Env) : HandLaw env (Plant.DampersWell env.store) where
  kept k h := h.unitsKept k
  hand p d _ h := handDemand_dampersFit h p d

theorem State.runEvent_dampersFit {s : State} {g : Env → Ev → Ev}
    (h : (g s.env (.start s.plant)).plant.DampersWell s.store) : (s.runEvent g).plant.DampersWell s.store :=
  finishEvent_law (env := s.env) (dampersFit_handLaw s.env) h fun _ k => evaluate_dampersFit k

end Sys2Proof.Machine
end

section
/-! SUPPORT and the statement about the dampers: every event of the plant, a completed write, a count and a device reset
leave each damper record as Table 3-2 gives it, and in WAITFAN behind a turning path fan. -/

namespace Sys2Proof.Machine

/-! ## The events at lines and timers -/

section Events
variable {env : Env} {ev : Ev} (h : ev.plant.DampersWell env.store)
include h

/-- What a damper's limit event, stroke timer or reset makes of its record is written (R69, R70). -/
theorem moveDamper_dampersWell {p : Point} {o d : Damper} (ho : ev.plant.damper? p = some o)
    (k : ∀ T : Prop, o.Fit T → d.Fit T) : (moveDamper env p d ev).plant.DampersWell env.store :=
  moveDamper_dampersFit h (k _ (h.fit p o ho))

theorem limitFilterTakes_dampersWell {p : Point} {d : Damper} (hd : ev.plant.damper? p = some d) (i : LimitInput)
    (f : Filter) : (limitFilterTakes env p i d f ev).plant.DampersWell env.store := by
  unfold limitFilterTakes
  dsimp only
  split
  · exact putDamper_dampersWell h ((h.fit p d hd).setFilt i f)
  · exact moveDamper_dampersWell h hd fun _ k => (k.setFilt i f).limitEvent i

theorem driveFilterTakes_dampersWell (p : Point) (f : Fan) (g : Filter) :
    (driveFilterTakes env p f g ev).plant.DampersWell env.store := by
  unfold driveFilterTakes
  dsimp only
  split <;> exact putFan_dampersFit h ..

theorem countEdge_dampersWell (p : Point) : (countEdge p ev).plant.DampersWell env.store := by
  unfold countEdge
  split
  · exact h
  · rename_i f hf
    split
    · exact h.setFan_same hf rfl
    · exact h

theorem setLine_dampersWell (p : Point) (i : LimitInput) (level : Level) :
    (ev.setChan p ((ev.plant.chan p).setLine i level)).plant.DampersWell env.store :=
  h.unitsKept (Plant.unitsKept_setChan (by cases i <;> rfl) (by cases i <;> rfl))

theorem feedbackLine_dampersWell (p : Point) (i : LimitInput) (level : Level) :
    (feedbackLine p i level env ev).plant.DampersWell env.store := by
  have k := setLine_dampersWell h p i level
  have damper {d : Damper} (e : (ev.plant.chan p).unit = .damper d) :
      (ev.setChan p ((ev.plant.chan p).setLine i level)).plant.damper? p = some d := by
    rw [Plant.damper?_eq_some, Ev.setChan_plant, Plant.chan_setChan_self, ← e]; cases i <;> rfl
  unfold feedbackLine damperLine driveLine
  dsimp only
  split
  · exact h
  · split <;> rename_i hu
    · exact k
    · split
      · exact limitFilterTakes_dampersWell k (damper hu) ..
      · exact k
    · split
      · split
        · exact countEdge_dampersWell k p
        · exact k
      · split
        · exact driveFilterTakes_dampersWell k ..
        · exact k

theorem risingEdge_dampersWell (p : Point) : (risingEdge p env ev).plant.DampersWell env.store := by
  unfold risingEdge
  dsimp only
  split
  · exact countEdge_dampersWell (setLine_dampersWell h p .fba .high) p
  · exact feedbackLine_dampersWell h ..

theorem withSupply_dampersWell (g : Supply → Supply) : (ev.withSupply g).plant.DampersWell env.store :=
  h.of_units fun _ => rfl

theorem supplyActivity_dampersWell (active : Bool) :
    (supplyActivity env active ev).plant.DampersWell env.store := by
  unfold supplyActivity
  split
  · rw [Ev.evaluateIf_plant]
    exact supplyTrip_dampersFit (withSupply_dampersWell h _)
  · rw [Ev.evaluateIf_plant]; exact withSupply_dampersWell h _
  · rw [Ev.evaluateIf_plant]; exact withSupply_dampersWell h _
  · exact h

theorem supplyFilterTakes_dampersWell (g : Filter) :
    (supplyFilterTakes env g ev).plant.DampersWell env.store := by
  have k := withSupply_dampersWell h fun su => { su with filter := g }
  unfold supplyFilterTakes
  dsimp only
  split
  · exact k
  · exact supplyActivity_dampersWell k _

theorem resetFan_dampersWell (p : Point) (f : Fan) : (resetFan p f env ev).plant.DampersWell env.store := by
  have k := putFan_dampersFit h p { f with state := .idle, fault := .none }
  unfold resetFan
  dsimp only
  split
  · exact putFan_dampersFit k ..
  · exact k

end Events

theorem PlantEvent.keeps_dampersWell {s : State} {g : Env → Ev → Ev} (e : PlantEvent s g)
    (h : s.plant.DampersWell s.store) : (g s.env (.start s.plant)).plant.DampersWell s.store := by
  have start : (Ev.start s.plant).plant.DampersWell s.env.store := h
  cases e with
  | limitTimer p i =>
    unfold limitTimerOut
    split
    · exact h
    · rename_i d hd
      split
      · exact limitFilterTakes_dampersWell start hd ..
      · exact h
  | strokeTimer p =>
    unfold strokeTimerOut
    split
    · exact h
    · rename_i d hd
      split
      · exact moveDamper_dampersWell start hd fun _ k => k.strokeRunsOut
      · exact h
  | gateTimer p =>
    unfold gateTimerOut
    split
    · exact h
    · split
      · exact putFan_dampersFit start ..
      · exact h
  | proofLimit p =>
    unfold proofLimitOut
    split
    · exact h
    · split
      · exact putFan_dampersFit start ..
      · exact h
  | runDownTimer p =>
    unfold runDownTimerOut
    split
    · exact h
    · split
      · exact runDownEnds_dampersFit start p
      · exact h
  | boundary p =>
    unfold boundaryOut
    split
    · exact h
    · split
      · exact putFan_dampersFit start ..
      · exact h
  | driveTimer p =>
    unfold driveTimerOut
    split
    · exact h
    · split
      · exact driveFilterTakes_dampersWell start ..
      · exact h
  | spacing =>
    unfold spacingOut
    split
    · exact start.of_units fun _ => rfl
    · exact h
  | supfailTimer =>
    unfold supfailTimerOut
    dsimp only
    split
    · exact supplyFilterTakes_dampersWell start _
    · exact h
  | settleTimer =>
    unfold settleTimerOut
    dsimp only
    split
    · exact start.of_units fun _ => rfl
    · exact h
  | feedback p i level => exact feedbackLine_dampersWell start p i level
  | edge p => exact risingEdge_dampersWell start p
  | supfail level =>
    unfold supfailLine
    dsimp only
    split
    · exact h
    · exact supplyFilterTakes_dampersWell (withSupply_dampersWell start fun su => { su with raw := level }) _
  | clearFault p d hd =>
    exact putDamper_dampersWell start (h.fit p d (Plant.damper?_eq_some.mpr hd)).clearFault
  | resetFan p f _ _ => exact resetFan_dampersWell start p f
  | joining => exact ResolverEvent.joining.law (dampersFit_handLaw s.env) h
  | override p v hv => exact (ResolverEvent.override p v hv).law (dampersFit_handLaw s.env) h
  | allAuto => exact ResolverEvent.allAuto.law (dampersFit_handLaw s.env) h
  | setNormal p a ha => exact (ResolverEvent.setNormal p a ha).law (dampersFit_handLaw s.env) h
  | beginTest first count hm h0 h1 =>
    exact (ResolverEvent.beginTest first count hm h0 h1).law (dampersFit_handLaw s.env) h
  | haltTest hr => exact (ResolverEvent.haltTest hr).law (dampersFit_handLaw s.env) h
  | commission hm => exact (ResolverEvent.commission hm).law (dampersFit_handLaw s.env) h
  | decommission hm => exact (ResolverEvent.decommission hm).law (dampersFit_handLaw s.env) h

/-! ## A point re-initialised -/

theorem Channel.damper?_unit {ch : Channel} {d : Damper} (h : ch.damper? = some d) : ch.unit = .damper d := by
  unfold Channel.damper? at h
  split at h
  · rename_i x hx; cases h; exact hx
  · cases h

/-- The record that a point has after reset fits any damper law. -/
theorem Equipment.afterReset_dampers_fit {T : Prop} {c : PointCfg} {ch : Channel} {d : Damper}
    (h : Equipment.afterReset c ch = .damper d) : d.Fit T := by
  unfold Equipment.afterReset at h
  split at h <;> cases h
  exact Damper.afterReset_fit ..

/-- Of a point that is a fan neither before nor after the write, the other dampers have the path fans they had. -/
theorem Store.SameBut.mem_pathFans {st st' : Store} {p q d : Point} (h : st.SameBut p st') (hd : d ≠ p)
    (hn : st.kind p ≠ .fan) (hq : q ∈ st.pathFans d) : q ∈ st'.pathFans d := by
  rw [Store.mem_pathFans] at hq ⊢
  have ne : q ≠ p := by rintro rfl; exact hn hq.1
  exact ⟨by rw [Store.kind, h q ne]; exact hq.1, (h.pathDampers ne hd).mpr hq.2⟩

theorem Equipment.isFan_iff {u : Equipment} : u.isFan = true ↔ u.kind = .fan := by cases u <;> simp [isFan, kind]

/-- The record replaced: a release is to come when the point was or becomes a fan (R73). -/
theorem reinitialised_dampersFit {st st' : Store} {p : Point} {pl : Plant} (hst : st.SameBut p st')
    (hk : pl.KindsFit st) (h : pl.DampersWell st) :
    (pl.setChan p ((pl.chan p).reinitialised (st'.point p))).DampersFit st' fun _ =>
      ((pl.chan p).unit.isFan || (Equipment.afterReset (st'.point p) (pl.chan p)).isFan) = true := by
  refine ⟨fun q d hd => ?_⟩
  rw [Plant.damper?_setChan] at hd
  split at hd
  · exact Equipment.afterReset_dampers_fit (Channel.damper?_unit hd)
  · rename_i ne
    refine (h.fit q d hd).imp fun x => ?_
    obtain ⟨r, hr, ht⟩ := anyPathFanTurning_iff.mp (x.resolve_left id)
    by_cases hf : (pl.chan p).unit.isFan = true
    · exact .inl (by rw [hf]; rfl)
    · have hn : st.kind p ≠ .fan := fun k => hf (Equipment.isFan_iff.mpr ((hk p).trans k))
      refine .inr (anyPathFanTurning_iff.mpr ⟨r, hst.mem_pathFans ne hn hr, ?_⟩)
      have ne' : r ≠ p := by rintro rfl; exact hn (Store.mem_pathFans.mp hr).1
      rwa [Plant.turning_eq, Plant.chan_setChan, if_neg ne', ← Plant.turning_eq]

theorem damperSideFollows_dampersFit {env : Env} {X : Point → Prop} {p : Point} {old new : Equipment} {ev : Ev}
    (h : ev.plant.DampersFit env.store X) :
    (damperSideFollows env p old new ev).plant.DampersFit env.store X := by
  have trip : ((tripPathFans env p ev).evaluateIf true).plant.DampersFit env.store X := tripPathFans_dampersFit h p
  unfold damperSideFollows
  split
  · split
    · exact trip
    · exact h
  · exact trip
  · exact h
  · exact h

theorem recordReplaced_dampersWell {env : Env} {st : Store} {n : Nat} {p : Point} {ev : Ev}
    (hst : st.SameBut p env.store) (hk : ev.plant.KindsFit st) (h : ev.plant.DampersWell st) :
    (recordReplaced n p env ev).plant.DampersWell env.store := by
  let e := (ev.setChan p ((ev.plant.chan p).reinitialised (env.store.point p))).mark p
  have k := reinitialised_dampersFit hst hk h
  have left : (oldFanLeaves n p (ev.plant.chan p).unit e).plant.DampersFit env.store _ :=
    k.of_units fun q => by rw [oldFanLeaves_chan]; rfl
  unfold recordReplaced
  dsimp only
  split
  · exact releaseWaiting_dampersFit (damperSideFollows_dampersFit left)
  · rename_i c
    exact (damperSideFollows_dampersFit left).mono fun _ x => c x

/-! ## A count, and a device reset -/

theorem countPasses_dampersWell {s : State} (h : s.plant.DampersWell s.store) :
    s.countPasses.plant.DampersWell s.store := by
  have turns (q : Point) : (s.countPasses.plant.chan q).unit.turns = (s.plant.chan q).unit.turns := by
    rw [State.countPasses_chan, Channel.tick]
    cases (s.plant.chan q).unit <;> rfl
  refine ⟨fun p d hd => ?_⟩
  rw [Plant.damper?_eq_some, State.countPasses_chan, Channel.tick] at hd
  rw [anyPathFanTurning_congr turns]
  cases hu : (s.plant.chan p).unit with
  | damper o =>
    rw [hu] at hd
    cases hd
    exact (h.fit p o (Plant.damper?_eq_some.mpr hu)).tick
  | unused => rw [hu] at hd; cases hd
  | fan f => rw [hu] at hd; cases hd

theorem blocksReset_dampersWell (s : State) : s.blocksReset.plant.DampersWell s.blocksReset.store := by
  refine ⟨fun p d hd => ?_⟩
  rw [Plant.damper?_eq_some, State.blocksReset_chan] at hd
  exact Equipment.afterReset_dampers_fit hd

/-! ## The law of the plant -/

/-- The kinds of the records and the dampers, together: a path fan is a point whose record is a fan's. -/
theorem dampersWell_law : PlantLaw fun st pl => pl.KindsFit st ∧ pl.DampersWell st where
  draws n h := ⟨kindsFit_law.draws n h.1, h.2.of_units fun _ => rfl⟩
  sameKinds {st st' pl} e h := by
    refine ⟨kindsFit_law.sameKinds e h.1, ⟨fun p d hd => (h.2.fit p d hd).imp fun x => x.imp_right fun y => ?_⟩⟩
    have kind : st'.kind = st.kind := funext fun p => by rw [Store.kind, Store.kind, e p]
    have path (q : Point) : st'.pathDampers q = st.pathDampers q := by
      rw [Store.pathDampers, Store.pathDampers, e q, kind]
    obtain ⟨q, hq, ht⟩ := anyPathFanTurning_iff.mp y
    exact anyPathFanTurning_iff.mpr ⟨q, by rwa [Store.mem_pathFans, kind, path, ← Store.mem_pathFans], ht⟩
  count s h := ⟨kindsFit_law.count s h.1, countPasses_dampersWell h.2⟩
  event s g e h := ⟨kindsFit_law.event s g e h.1, State.runEvent_dampersFit (e.keeps_dampersWell h.2)⟩
  report s h :=
    ⟨kindsFit_law.report s h.1,
      State.runEvent_dampersFit (listReport_law (dampersFit_handLaw s.env) (ev := .start s.plant) h.2)⟩
  limit s v h := by
    refine ⟨kindsFit_law.limit s v h.1, State.runEvent_dampersFit ?_⟩
    unfold Ev.newLimit
    split <;> exact h.2.of_units fun _ => rfl
  reinit s st n p hst h := by
    refine ⟨kindsFit_law.reinit s st n p hst h.1, State.runEvent_dampersFit ?_⟩
    rw [reinitialise_plant]
    exact resolvePoint_law (dampersFit_handLaw s.env)
      (recordReplaced_dampersWell (env := s.env) (ev := .start s.plant) hst h.1 h.2) true p
  ends s := by
    refine ⟨kindsFit_law.ends s, ?_⟩
    rw [deviceResetEnds_plant, deviceResetEnds_store]
    exact State.runEvent_dampersFit (resolveAll_law (dampersFit_handLaw s.blocksReset.env)
      (ev := .start s.blocksReset.plant) (blocksReset_dampersWell s) true)

/-! ## The statement -/

theorem dampersSound_iff (s : State) :
    (s.KindsSound ∧ s.DampersSound) ↔
      (s.held = false → s.plant.KindsFit s.store ∧ s.plant.DampersWell s.store) := by
  constructor
  · rintro ⟨hk, hd⟩ hh
    refine ⟨hk hh, ⟨fun p d hp => ?_⟩⟩
    obtain ⟨table, waits⟩ := hd hh p d hp
    exact ⟨table, fun hw => (waits hw).imp_left .inr⟩
  · refine fun h => ⟨fun hh => (h hh).1, fun hh p d hp => ?_⟩
    have k := (h hh).2.fit p d hp
    exact ⟨k.table, fun hw => (k.waits hw).imp_left fun x => x.resolve_left id⟩

/-- Settles O24: only a CLOSE demand that meets a turning path fan puts a damper in WAITFAN
(`Damper.Fit.takeDemand`), and a fan that stops turning is followed, within the event, by the release of every damper
that waits in vain (`releaseWaiting_dampersFit`). -/
theorem dampersStaySound : Obligations.DampersStaySound := by
  intro s t h e
  rw [dampersSound_iff] at h ⊢
  exact dampersWell_law.step_keeps h e

end Sys2Proof.Machine
end

section
/-! SUPPORT. What an event at a damper leaves at each point: the damper's own record, the interlock trips of its path
fans when it leaves OPEN, and every other channel as it was. -/

namespace Sys2Proof.Machine

/-! ## The interlock trip at a fan's channel (R84, R86) -/

theorem Fan.ranDown_rests (c : PointCfg) (f : Fan) : (f.ranDown c).state.energised = false := by
  unfold Fan.ranDown
  split
  · rw [Fan.norm_state]; exact Fan.afterRunDown_rests _
  · rfl

/-- A fan's entry to RUNDOWN, its time above 0: it holds its demand (R84). -/
theorem Fan.ranDown_of_time {c : PointCfg} (h : 0 < c.tRD) (f : Fan) :
    (f.ranDown c).state = .runDown ∧ (f.ranDown c).runDown = .running (8 * c.tRD) 0 ∧ (f.ranDown c).held = f.held := by
  rw [Fan.ranDown, if_neg (by omega)]
  exact ⟨rfl, Timer.load_pos (by omega), rfl⟩

/-- A channel after the interlock trip: an energised fan whose source is not OVERRIDE runs down. -/
def Channel.tripped (c : PointCfg) (ch : Channel) : Channel :=
  match ch.unit with
  | .fan f =>
    if f.state.energised && !f.underOverride then { ch with unit := .fan (f.ranDown c), cmd := false } else ch
  | _ => ch

theorem Channel.tripped_of_fan {c : PointCfg} {ch : Channel} {f : Fan} (h : ch.unit = .fan f) :
    ch.tripped c =
      if f.state.energised && !f.underOverride then { ch with unit := .fan (f.ranDown c), cmd := false } else ch := by
  unfold Channel.tripped; simp only [h]

theorem Channel.tripped_of_not_fan {c : PointCfg} {ch : Channel} (h : ch.unit.isFan = false) : ch.tripped c = ch := by
  unfold Channel.tripped
  split
  · rename_i hu; rw [hu] at h; cases h
  · rfl

/-- A fan that has run down is not tripped again. -/
theorem Channel.tripped_tripped (c : PointCfg) (ch : Channel) : (ch.tripped c).tripped c = ch.tripped c := by
  cases hu : ch.unit with
  | fan f =>
    rw [Channel.tripped_of_fan hu]
    split
    · rw [Channel.tripped_of_fan rfl, Fan.ranDown_rests]; rfl
    · rw [Channel.tripped_of_fan hu, if_neg ‹_›]
  | _ =>
    have h : ch.unit.isFan = false := by rw [hu]; rfl
    rw [Channel.tripped_of_not_fan h, Channel.tripped_of_not_fan h]

theorem Channel.Bystander.of_fan {ch : Channel} {f : Fan} (h : ch.unit = .fan f) : ch.Bystander :=
  .of_not_damper fun d => by simp [h]

theorem Channel.Bystander.of_damper {ch : Channel} {d : Damper} (h : ch.unit = .damper d) (hp : d.pos ≠ .waitFan) :
    ch.Bystander := by
  intro x hx
  simp only [Channel.damper?, h, Option.some.injEq] at hx
  exact hx ▸ hp

theorem Channel.Bystander.tripped {ch : Channel} (h : ch.Bystander) (c : PointCfg) : (ch.tripped c).Bystander := by
  unfold Channel.tripped
  split
  · split
    · exact .of_fan rfl
    · exact h
  · exact h

section Trips
variable {env : Env} {ev : Ev} {q : Point}

theorem enterRunDown_chan_self {o : Fan} (h : ev.plant.fan? q = some o) :
    (enterRunDown env q ev).plant.chan q =
      { ev.plant.chan q with unit := .fan (o.ranDown (env.store.point q)), cmd := false } := by
  have rests := o.ranDown_rests (env.store.point q)
  rw [enterRunDown_eq env h, Fan.ranDown] at *
  split
  · rename_i ht
    rw [if_pos ht, Fan.norm_state] at rests
    rw [putFan_chan _ (putFan_fan?_self env _ h) (.inl rfl), if_pos rfl, putFan_chan _ h (.inl rfl), if_pos rfl, rests]
  · rw [putFan_chan _ h (.inl rfl), if_pos rfl]; rfl

theorem interlockTrip_chan (h : (ev.plant.chan q).Bystander) (y : Point) :
    (interlockTrip env ev y).plant.chan q =
      if q = y then (ev.plant.chan q).tripped (env.store.point q) else ev.plant.chan q := by
  unfold interlockTrip
  split
  · rename_i hn
    split
    · rename_i e
      subst e
      rw [Channel.tripped_of_not_fan]
      cases hu : (ev.plant.chan q).unit <;> simp [Plant.fan?, Channel.fan?, hu, Equipment.isFan] at hn ⊢
    · rfl
  · rename_i f hf
    by_cases e : q = y
    · subst e
      rw [if_pos rfl, Channel.tripped_of_fan (Plant.fan?_eq_some.mp hf)]
      split
      · exact enterRunDown_chan_self hf
      · rfl
    · rw [if_neg e]
      split
      · exact enterRunDown_chan_ne h e
      · rfl

/-- The trips of a list of points. -/
theorem interlockTrips_chan (l : List Point) (h : (ev.plant.chan q).Bystander) :
    (l.foldl (interlockTrip env) ev).plant.chan q =
      if q ∈ l then (ev.plant.chan q).tripped (env.store.point q) else ev.plant.chan q := by
  induction l generalizing ev with
  | nil => rfl
  | cons y ys ih =>
    have one := interlockTrip_chan (env := env) h y
    rw [List.foldl_cons]
    by_cases e : q = y
    · rw [if_pos e] at one
      rw [ih (by rw [one]; exact h.tripped _), one, Channel.tripped_tripped, ite_self, if_pos (by simp [e])]
    · rw [if_neg e] at one
      rw [ih (by rw [one]; exact h), one]
      simp [e]

/-- Of a bystander the trips change the channel only if it is an energised path fan of the damper. -/
theorem tripPathFans_chan_eq (h : (ev.plant.chan q).Bystander) (p : Point) :
    (tripPathFans env p ev).plant.chan q =
      if q ∈ env.store.pathFans p then (ev.plant.chan q).tripped (env.store.point q) else ev.plant.chan q :=
  interlockTrips_chan _ h

/-! ## The marks -/

/-- A fan's change of state marks it (R145). -/
theorem putFan_marks {o f : Fan} (h : ev.plant.fan? q = some o) (hs : o.state ≠ f.state) :
    q ∈ (putFan env q f ev).marks := by
  have changed : (o.state != f.state) = true := bne_iff_ne.mpr hs
  unfold putFan
  simp only [h, Fan.norm_state, changed, Bool.true_or]
  generalize hx : schedulerFollows env q o (f.norm (env.store.point q)) _ = x
  have marked : q ∈ x.marks := by
    rw [← hx]
    exact (schedulerFollows_onward ..).1 (by rw [Ev.markIf_marks]; exact List.mem_cons_self)
  rw [if_pos hs]
  split
  · exact (releaseWaiting_onward ..).1 marked
  · exact marked

theorem enterRunDown_marks {o : Fan} (h : ev.plant.fan? q = some o) (hs : o.state ≠ .runDown) :
    q ∈ (enterRunDown env q ev).marks := by
  have entered : q ∈ (putFan env q (o.toRunDown (env.store.point q)) ev).marks := putFan_marks h hs
  rw [enterRunDown_eq env h]
  split
  · exact (putFan_onward ..).1 entered
  · exact entered

theorem interlockTrip_onward (env : Env) (ev : Ev) (y : Point) : ev.Onward (interlockTrip env ev y) := by
  unfold interlockTrip
  split
  · exact .refl _
  · split
    · exact enterRunDown_onward ..
    · exact .refl _

theorem tripPathFans_onward (env : Env) (p : Point) (ev : Ev) : ev.Onward (tripPathFans env p ev) :=
  onward_foldl _ (interlockTrip_onward env) _ ev

/-- The trips mark every fan that they reach. -/
theorem tripPathFans_marks {p : Point} {f : Fan} (hu : (ev.plant.chan q).unit = .fan f)
    (he : (f.state.energised && !f.underOverride) = true) (hq : q ∈ env.store.pathFans p) :
    q ∈ (tripPathFans env p ev).marks := by
  have key (l : List Point) (hl : q ∈ l) {x : Ev} (hx : (x.plant.chan q).unit = .fan f) :
      q ∈ (l.foldl (interlockTrip env) x).marks := by
    induction l generalizing x with
    | nil => cases hl
    | cons y ys ih =>
      rw [List.foldl_cons]
      by_cases e : q = y
      · subst e
        have hf := Plant.fan?_eq_some.mpr hx
        refine (onward_foldl _ (interlockTrip_onward env) ys _).1 ?_
        unfold interlockTrip
        simp only [hf, he, if_true]
        refine enterRunDown_marks hf fun hs => ?_
        rw [hs] at he
        cases he
      · refine ih ((List.mem_cons.mp hl).resolve_left e) ?_
        rw [interlockTrip_chan (.of_fan hx), if_neg e, hx]
  exact key _ hq hu

end Trips

/-! ## A damper's record moved (R69) -/

/-- A damper's change of position state, fault or TIMED marks it (R145). -/
theorem putDamper_marks {env : Env} {p : Point} {o d : Damper} {ev : Ev} (h : ev.plant.damper? p = some o)
    (hc : d.pos ≠ o.pos ∨ d.fault ≠ o.fault ∨ d.timed ≠ o.timed) : p ∈ (putDamper env p d ev).marks := by
  have changed : (o.pos != d.pos || o.fault != d.fault || o.timed != d.timed) = true := by
    simp only [Bool.or_eq_true, bne_iff_ne, or_assoc]
    exact hc.imp Ne.symm (Or.imp Ne.symm Ne.symm)
  unfold putDamper
  simp only [h, changed]
  split <;> exact List.mem_cons_self

section Moved
variable {env : Env} {p q : Point} {o d : Damper} {ev : Ev} (h : ev.plant.damper? p = some o)
include h

/-- Only a damper that leaves OPEN trips its path fans. -/
theorem moveDamper_eq : moveDamper env p d ev =
    if o.pos = .opened ∧ d.pos ≠ .opened then tripPathFans env p (putDamper env p d ev) else putDamper env p d ev := by
  have left : (ev.plant.isOpen p && d.pos != .opened) = true ↔ o.pos = .opened ∧ d.pos ≠ .opened := by
    simp [Plant.isOpen, h]
  unfold moveDamper
  simp only [left]

theorem moveDamper_of_stays (hp : ¬(o.pos = .opened ∧ d.pos ≠ .opened)) :
    moveDamper env p d ev = putDamper env p d ev := by rw [moveDamper_eq h, if_neg hp]

theorem moveDamper_marks (hc : d.pos ≠ o.pos ∨ d.fault ≠ o.fault ∨ d.timed ≠ o.timed) :
    p ∈ (moveDamper env p d ev).marks := by
  rw [moveDamper_eq h]
  split
  · exact (tripPathFans_onward ..).1 (putDamper_marks h hc)
  · exact putDamper_marks h hc

/-- The damper's own channel. -/
theorem moveDamper_chan_self (hp : o.pos = .opened → d.pos ≠ .waitFan) :
    (moveDamper env p d ev).plant.chan p =
      { ev.plant.chan p with unit := .damper d, cmd := damperCmd (env.store.point p) d } := by
  have written := putDamper_chan_self (env := env) d h
  rw [moveDamper_eq h]
  split
  · rename_i c
    rw [tripPathFans_chan_eq (.of_damper (d := d) (by rw [written]) (hp c.1)), written,
      Channel.tripped_of_not_fan rfl, ite_self]
  · exact written

/-- The channel of a bystander: an energised path fan of a damper that leaves OPEN trips. -/
theorem moveDamper_chan_ne (hq : (ev.plant.chan q).Bystander) (hne : q ≠ p) :
    (moveDamper env p d ev).plant.chan q =
      if (o.pos = .opened ∧ d.pos ≠ .opened) ∧ q ∈ env.store.pathFans p then
        (ev.plant.chan q).tripped (env.store.point q)
      else ev.plant.chan q := by
  have written : (putDamper env p d ev).plant.chan q = ev.plant.chan q := by
    rw [putDamper_chan, if_neg fun x => hne x.1]
  rw [moveDamper_eq h]
  by_cases c : o.pos = .opened ∧ d.pos ≠ .opened
  · rw [if_pos c, tripPathFans_chan_eq (by rw [written]; exact hq), written]
    simp only [c, ne_eq, not_false_eq_true, and_self, true_and]
  · rw [if_neg c, if_neg fun x => c x.1, written]

end Moved

/-! ## The end of an event with no test running, outside RESTORE -/

section Quiet
variable {env : Env} {ev : Ev} (ht : ev.plant.test.state ≠ .running) (hm : ev.plant.mode ≠ .restore)
include ht hm

theorem finishEvent_test : (finishEvent env ev).plant.test = ev.plant.test :=
  finishEvent_keeps (P := fun pl => pl.test = ev.plant.test) ht hm
    (fun _ _ _ f r hf hx => (setWait_frame sequencersOnly_frame f r hf).2.1.trans hx)
    (fun p _ x f _ hx => (startFan_frame sequencersOnly_frame env p f x).2.1.trans hx) (fun _ _ hx => hx) rfl

/-- Under a fit queue, a point whose fan, if it has one, does not stand in QUEUED keeps its channel. -/
theorem finishEvent_chan_of_queueFit (F : ev.plant.QueueFit env.store) {q : Point}
    (hq : ∀ f, ev.plant.fan? q = some f → f.state ≠ .queued) :
    (finishEvent env ev).plant.chan q = ev.plant.chan q := by
  refine finishEvent_chan ht hm fun x => ?_
  obtain ⟨f, hf, hs⟩ := Plant.isQueued_iff.mp ((F.mem q).mp x)
  exact hq f hf hs

end Quiet

theorem finishEvent_marks (env : Env) (ev : Ev) : ev.marks ⊆ (finishEvent env ev).marks :=
  (finishEvent_moves env False ev False.elim).demandsTold.1

end Sys2Proof.Machine
end

section
/-! SUPPORT and the statements about the timers of a damper: a limit's filter timer and the stroke timer run out. -/

namespace Sys2Proof.Machine

/-! ## A damper's record moved, to the end of the event -/

section Moved
variable {s : State} {p q : Point} {o d : Damper} {g : Env → Ev → Ev}

/-- What the sequencers leave of the mode and the test record holds to the end of the event. -/
theorem moveDamper_quiet (ht : s.NoTest) (hm : s.plant.mode ≠ .restore) :
    (moveDamper s.env p d (.start s.plant)).plant.test.state ≠ .running ∧
      (moveDamper s.env p d (.start s.plant)).plant.mode ≠ .restore := by
  obtain ⟨mode, test, -⟩ := moveDamper_frame sequencersOnly_frame s.env p d (.start s.plant)
  rw [mode, test]
  exact ⟨ht, hm⟩

variable (hg : g s.env (.start s.plant) = moveDamper s.env p d (.start s.plant))
include hg

theorem State.runEvent_moved_kept :
    s.plant.EntriesKept (s.runEvent g).plant ∧ (s.runEvent g).plant.supply = s.plant.supply := by
  refine ⟨runEvent_frame entriesKept_frame g s ?_, runEvent_frame supply_frame g s ?_⟩ <;> rw [hg]
  · exact moveDamper_frame entriesKept_frame.toSeqFrame s.env p d _
  · exact moveDamper_frame supply_frame.toSeqFrame s.env p d _

theorem State.runEvent_moved_marks (hq : q ∈ (moveDamper s.env p d (.start s.plant)).marks) :
    (s.runEvent g).PointMarked q :=
  State.runEvent_pointMarked g s q (finishEvent_marks _ _ (by rw [hg]; exact hq))

theorem State.runEvent_moved_rest (ht : s.NoTest) (hm : s.plant.mode ≠ .restore) :
    (s.runEvent g).plant.mode = s.plant.mode ∧ (s.runEvent g).plant.test = s.plant.test := by
  obtain ⟨quiet, normal⟩ := moveDamper_quiet (p := p) (d := d) ht hm
  obtain ⟨mode, test, -⟩ := moveDamper_frame sequencersOnly_frame s.env p d (.start s.plant)
  rw [State.runEvent_plant, hg]
  exact ⟨(finishEvent_demands quiet normal).1.trans mode, (finishEvent_test quiet normal).trans test⟩

/-- A channel whose fan, if it has one, does not come out of the event's move in QUEUED. -/
theorem State.runEvent_moved_chan (ht : s.NoTest) (hm : s.plant.mode ≠ .restore) (F : s.plant.QueueFit s.store)
    (hq : ∀ f, (moveDamper s.env p d (.start s.plant)).plant.fan? q = some f → f.state ≠ .queued) :
    (s.runEvent g).plant.chan q = (moveDamper s.env p d (.start s.plant)).plant.chan q := by
  obtain ⟨quiet, normal⟩ := moveDamper_quiet (p := p) (d := d) ht hm
  rw [State.runEvent_plant, hg]
  exact finishEvent_chan_of_queueFit quiet normal ((moveDamper_moves s.env True p d _).keeps_queueFit F) hq

section Points
variable (ht : s.NoTest) (hm : s.plant.mode ≠ .restore) (F : s.plant.QueueFit s.store)
  (ho : s.plant.damper? p = some o)
include ht hm F ho

/-- The damper's own channel. -/
theorem State.runEvent_moved_self (hp : o.pos = .opened → d.pos ≠ .waitFan) :
    (s.runEvent g).plant.chan p =
      { s.plant.chan p with unit := .damper d, cmd := damperCmd (s.store.point p) d } := by
  have self := moveDamper_chan_self (env := s.env) (ev := .start s.plant) ho hp
  refine (State.runEvent_moved_chan hg ht hm F fun f hf => ?_).trans self
  rw [Plant.fan?_eq_some, self] at hf
  cases hf

/-- A bystander that no trip reaches and that does not wait in the queue. -/
theorem State.runEvent_moved_bystander (hq : (s.plant.chan q).Bystander) (hne : q ≠ p)
    (stays : ¬(o.pos = .opened ∧ d.pos ≠ .opened) ∨ (s.plant.chan q).unit.isFan = false)
    (hs : ∀ f, s.plant.fan? q = some f → f.state ≠ .queued) :
    (s.runEvent g).plant.chan q = s.plant.chan q := by
  have same : (moveDamper s.env p d (.start s.plant)).plant.chan q = s.plant.chan q := by
    rw [moveDamper_chan_ne (ev := .start s.plant) ho hq hne]
    rcases stays with h | h
    · exact if_neg fun k => h k.1
    · rw [Ev.start_plant, Channel.tripped_of_not_fan h, ite_self]
  refine (State.runEvent_moved_chan hg ht hm F fun f hf => hs f ?_).trans same
  rwa [Plant.fan?, same] at hf

/-- A path fan of a damper that leaves OPEN, energised and not under override, with a time to run down (R84, R86). -/
theorem State.runEvent_moved_tripped {f : Fan} (left : o.pos = .opened ∧ d.pos ≠ .opened)
    (hq : q ∈ s.store.pathFans p) (hf : s.plant.fan? q = some f)
    (hr : (f.state.energised && !f.underOverride) = true) (hrd : 0 < (s.store.point q).tRD) :
    (s.runEvent g).plant.chan q =
        { s.plant.chan q with unit := .fan (f.ranDown (s.store.point q)), cmd := false } ∧
      (s.runEvent g).PointMarked q := by
  have fan : (s.plant.chan q).unit = .fan f := Plant.fan?_eq_some.mp hf
  have ne : q ≠ p := by
    rintro rfl
    rw [Plant.damper?_of_fan? hf] at ho
    cases ho
  have trips : (moveDamper s.env p d (.start s.plant)).plant.chan q =
      { s.plant.chan q with unit := .fan (f.ranDown (s.store.point q)), cmd := false } := by
    refine (moveDamper_chan_ne (ev := .start s.plant) ho (.of_fan fan) ne).trans ?_
    rw [if_pos ⟨left, hq⟩]
    exact (Channel.tripped_of_fan fan).trans (if_pos hr)
  refine ⟨(State.runEvent_moved_chan hg ht hm F fun f' hf' => ?_).trans trips, State.runEvent_moved_marks hg ?_⟩
  · rw [Plant.fan?_eq_some, trips] at hf'
    obtain rfl := Equipment.fan.inj hf'
    rw [(Fan.ranDown_of_time hrd f).1]
    decide
  · rw [moveDamper_eq (ev := .start s.plant) ho, if_pos left]
    refine tripPathFans_marks ?_ hr hq
    rw [putDamper_chan, if_neg fun e => ne e.1]
    exact fan

end Points

end Moved

/-! ## A limit's filter timer -/

theorem Damper.drift_pos_ne {c : PointCfg} {d : Damper} (h : d.pos ≠ .waitFan) : (d.drift c).pos ≠ .waitFan := by
  unfold Damper.drift
  split
  · exact Damper.strokeTowards_pos_ne _ _ _
  · exact h

/-- A limit event takes no damper from OPEN into the close wait. -/
theorem Damper.limitEvent_pos_of_opened {c : PointCfg} {d : Damper} (h : d.pos = .opened) (i : LimitInput) :
    (d.limitEvent c i).pos ≠ .waitFan := by
  have stays : d.pos ≠ .waitFan := by rw [h]; decide
  unfold Damper.limitEvent
  split
  · unfold Damper.limitEventTwoLimit
    split
    · rw [Damper.conflict_eq, if_neg stays]; simp
    · simp only [h]
      split
      · exact Damper.drift_pos_ne stays
      · exact stays
  · simp only [Damper.limitEventOpenLimit, h]
    split
    · exact stays
    · exact Damper.drift_pos_ne stays
  · exact stays

theorem exec_limitFilterTimerRunsOut {s : State} (hh : s.held = false) (p : Point) (i : LimitInput) :
    exec (.limitFilterTimerRunsOut p i) s = .next (s.runEvent (limitTimerOut p i)) := by
  show Host.Outcome.next (s.unlessHeld (State.runEvent (limitTimerOut p i))) = _
  rw [State.unlessHeld, if_neg (by simp [hh])]

/-- Settles O20: the event is the move of the damper's record after its limit event (`moveDamper`), whose trips, if it
leaves OPEN, are those of `Channel.tripped`, and no later part of the event reaches a point that does not wait in the
queue (`State.runEvent_moved_chan`). -/
theorem limitFilterRunsOut : Obligations.LimitFilterRunsOut := by
  intro s p i d hh ht hm hQ hd hr hl c x
  have F : s.plant.QueueFit s.store := ⟨(hQ hh).1, (hQ hh).2⟩
  have hg : limitTimerOut p i s.env (.start s.plant) = moveDamper s.env p x (.start s.plant) := by
    rw [limitTimerOut_eq (ev := .start s.plant) hd hr, limitFilterTakes, if_neg fun e => hl e.symm]
    rfl
  obtain ⟨pos, -⟩ := d.setFilt_same i { filtered := (s.plant.chan p).line i, timer := .idle }
  have self := State.runEvent_moved_self hg ht hm F hd fun hp => Damper.limitEvent_pos_of_opened (pos.trans hp) i
  have ne {q : Point} (hq : s.plant.damper? q = none) : q ≠ p := by rintro rfl; rw [hd] at hq; cases hq
  obtain ⟨entries, supply⟩ := State.runEvent_moved_kept hg
  obtain ⟨mode, test⟩ := State.runEvent_moved_rest hg ht hm
  refine ⟨_, exec_limitFilterTimerRunsOut hh p i, Plant.damper?_eq_some.mpr (by rw [self]), by rw [self],
    fun hc => State.runEvent_moved_marks hg (moveDamper_marks (ev := .start s.plant) hd hc),
    fun hp hx q f hq hf he hu hrd => ?_, fun hp q f hf hs => ?_, fun q y hne hy hw => ?_, mode, supply, test, entries,
    State.runEvent_portsMarked _ s, State.runEvent_outsidePlant _ s⟩
  · obtain ⟨state, timer, held⟩ := Fan.ranDown_of_time hrd f
    obtain ⟨chan, marked⟩ := State.runEvent_moved_tripped hg ht hm F hd ⟨hp, hx⟩ hq hf (by simp [he, hu]) hrd
    exact ⟨_, Plant.fan?_eq_some.mpr (by rw [chan]), state, timer, held, by rw [chan], marked⟩
  · have fan := Plant.fan?_eq_some.mp hf
    rw [Plant.fan?, State.runEvent_moved_bystander hg ht hm F hd (.of_fan fan) (ne (Plant.damper?_of_fan? hf))
      (.inl fun k => hp.elim (fun z => z k.1) k.2) fun f' hf' => Option.some.inj (hf.symm.trans hf') ▸ hs]
    exact hf
  · have damper := Plant.damper?_eq_some.mp hy
    rw [Plant.damper?, State.runEvent_moved_bystander hg ht hm F hd (.of_damper damper hw) hne
      (.inr (by rw [damper]; rfl)) fun f hf => ?_]
    · exact hy
    · rw [Plant.fan?_of_damper? hy] at hf
      cases hf

end Sys2Proof.Machine
end

section
/-! SUPPORT and the statement about the stroke timer of a damper. Its event writes the damper's record and reports of
that damper alone, so that without a test only an evaluation of the start queue can follow, in RESTORE too. -/

namespace Sys2Proof.Machine

/-! ## An event that reports of dampers alone -/

/-- Every report of the event is about a damper. -/
def Ev.ReportsDampers (ev : Ev) : Prop := ∀ r ∈ ev.reports, ∃ p pos fault, r = .damper p pos fault

section Settled
variable {env : Env} {ev : Ev} (ht : ev.plant.test.state ≠ .running) (hr : ev.ReportsDampers)
include ht hr

/-- Without a test nothing takes up a damper's report (R124). -/
theorem settleAll_of_reportsDampers : settleAll env ev = { ev with reports := [] } := by
  have fold (l : List Report) (hl : ∀ r ∈ l, ∃ p pos fault, r = .damper p pos fault) (x : Ev)
      (hx : x.plant.test.state ≠ .running) : l.foldl (takeReport env) x = x := by
    induction l with
    | nil => rfl
    | cons r rs ih =>
      obtain ⟨p, pos, fault, rfl⟩ := hl r List.mem_cons_self
      have ignored : takeReport env x (.damper p pos fault) = x := by simp [takeReport, Ev.underTest, hx]
      rw [List.foldl_cons, ignored]
      exact ih fun r' h => hl r' (List.mem_cons_of_mem _ h)
  have settled (n : Nat) (x : Ev) (hx : x.reports = []) : settle env n x = x := by
    cases n with
    | zero => rfl
    | succ n => rw [settle, hx]
  by_cases he : ev.reports = []
  · rw [settleAll, settled _ _ he, ← he]
  · rw [settleAll, Config.settleRounds, settle]
    split
    · exact absurd ‹_› he
    · rw [fold _ hr { ev with reports := [] } ht]
      exact settled _ _ rfl

/-- With no evaluation due and no joining noted nothing follows. -/
theorem finishEvent_plant_of_reportsDampers (he : ev.evalDue = false) (hj : ev.joined = []) :
    (finishEvent env ev).plant = ev.plant := by
  simp [finishEvent, settleAll_of_reportsDampers ht hr, he, hj]

omit ht hr in
/-- The evaluation touches fans alone. -/
theorem evaluate_damper? (q : Point) : (evaluate env ev).plant.damper? q = ev.plant.damper? q := by
  refine evaluationWalk_keeps (P := fun pl => pl.damper? q = ev.plant.damper? q) (fun p _ x f r hf hx => ?_)
    (fun p _ x f hf hx => ?_) _ rfl
  · rw [setWait, Ev.setChan_plant, Plant.damper?_setChan]
    split
    · rename_i e; subst e; rw [← hx, Plant.damper?_of_fan? hf]; rfl
    · exact hx
  · by_cases e : q = p
    · subst e
      have started := startFan_fan? (env := env) hf q
      rw [if_pos rfl] at started
      rw [Plant.damper?_of_fan? started, ← hx, Plant.damper?_of_fan? hf]
    · rw [Plant.damper?, startFan_chan_ne e hf]
      exact hx

theorem finishEvent_damper?_of_reportsDampers (q : Point) :
    (finishEvent env ev).plant.damper? q = ev.plant.damper? q := by
  have evaluated : (if ({ ev with reports := [] } : Ev).evalDue then evaluate env { ev with reports := [] }
      else { ev with reports := [] }).plant.damper? q = ev.plant.damper? q := by
    split
    · exact evaluate_damper? q
    · rfl
  simp only [finishEvent, settleAll_of_reportsDampers ht hr]
  exact evaluated

end Settled

section Written
variable {env : Env} {p : Point} {o d : Damper} {ev : Ev}

theorem putDamper_reportsDampers (h : ev.ReportsDampers) : (putDamper env p d ev).ReportsDampers := by
  unfold putDamper
  split
  · exact h
  · dsimp only
    split
    · intro r hr
      rw [Ev.report_reports, Ev.evaluateIf_reports, Ev.markIf_reports, Ev.setChan_reports, List.mem_append,
        List.mem_singleton] at hr
      exact hr.elim (h r) fun e => ⟨_, _, _, e⟩
    · intro r hr
      rw [Ev.evaluateIf_reports, Ev.markIf_reports, Ev.setChan_reports] at hr
      exact h r hr

/-- Only a damper that comes to OPEN or leaves it brings an evaluation (R71). -/
theorem putDamper_evalDue (h : ev.plant.damper? p = some o) (hp : (d.pos = .opened) ↔ (o.pos = .opened)) :
    (putDamper env p d ev).evalDue = ev.evalDue := by
  have same : ((o.pos == .opened) != (d.pos == .opened)) = false := by
    rw [bne_eq_false_iff_eq, Bool.eq_iff_iff, beq_iff_eq, beq_iff_eq]
    exact hp.symm
  unfold putDamper
  simp only [h, same]
  split <;> simp

end Written

/-! ## The stroke timer's event -/

theorem exec_strokeTimerRunsOut {s : State} (hh : s.held = false) (p : Point) :
    exec (.strokeTimerRunsOut p) s = .next (s.runEvent (strokeTimerOut p)) := by
  show Host.Outcome.next (s.unlessHeld (State.runEvent (strokeTimerOut p))) = _
  rw [State.unlessHeld, if_neg (by simp [hh])]

theorem strokeTimerOut_eq {env : Env} {p : Point} {d : Damper} {ev : Ev} (hd : ev.plant.damper? p = some d)
    (hr : d.stroke.isRunning = true) :
    strokeTimerOut p env ev = moveDamper env p (d.strokeRunsOut (env.store.point p)) ev := by
  unfold strokeTimerOut
  rw [hd]
  exact if_pos hr

/-- Proof by time (R60). -/
abbrev Damper.provesByTime (c : PointCfg) (d : Damper) : Prop :=
  (c.feedback = .timed ∧ d.pos ≠ .unproven) ∨
    (c.feedback = .openLimit ∧ d.pos = .closing ∧ d.fbaFilt.filtered = .high)

theorem Damper.strokeRunsOut_of_moving {c : PointCfg} {d : Damper} {e : DamperEnd} (h : d.pos = e.moving) :
    d.strokeRunsOut c = ({ d with stroke := .idle } : Damper).strokeRunsOutTowards c e := by
  obtain ⟨pos, held, fault, stroke, timed, fba, fbb⟩ := d
  cases h
  cases e <;> rfl

/-- In OPENING, CLOSING and UNPROVEN: a stroke towards an end, or none. -/
theorem Damper.inStroke_cases {d : Damper} (h : d.pos = .opening ∨ d.pos = .closing ∨ d.pos = .unproven) :
    (∃ e : DamperEnd, d.pos = e.moving) ∨ d.pos = .unproven := by
  rcases h with h | h | h
  · exact .inl ⟨.openEnd, h⟩
  · exact .inl ⟨.closedEnd, h⟩
  · exact .inr h

theorem DamperEnd.proven_of_moving (e : DamperEnd) :
    e.proven = if e.moving = .opening then .opened else .closed := by cases e <;> rfl

theorem Damper.strokeRunsOut_of_provesByTime {c : PointCfg} {d : Damper} (h : d.provesByTime c)
    (hp : d.pos = .opening ∨ d.pos = .closing ∨ d.pos = .unproven) :
    d.strokeRunsOut c =
      { d with pos := if d.pos = .opening then .opened else .closed, stroke := .idle, timed := true } := by
  rcases d.inStroke_cases hp with ⟨e, he⟩ | hu
  · rw [Damper.strokeRunsOut_of_moving he, he, ← e.proven_of_moving]
    unfold Damper.strokeRunsOutTowards
    rcases h with ⟨hf, -⟩ | ⟨hf, hc, hl⟩
    · rw [hf]; rfl
    · obtain rfl : e = .closedEnd := by cases e <;> simp [DamperEnd.moving, hc] at he ⊢
      have inactive : openLimitActive c { d with stroke := .idle } = false := by
        rw [Bool.eq_false_iff, ne_eq, openLimitActive_iff]; simp [hl]
      rw [hf]
      exact if_pos ⟨rfl, inactive⟩
  · rcases h with ⟨-, hn⟩ | ⟨-, hc, -⟩
    · exact absurd hu hn
    · rw [hu] at hc; cases hc

/-- A STROKE fault (R61). -/
theorem Damper.strokeRunsOut_of_faults {c : PointCfg} {d : Damper} (h : ¬d.provesByTime c)
    (hp : d.pos = .opening ∨ d.pos = .closing ∨ d.pos = .unproven) :
    d.strokeRunsOut c = { d with stroke := .idle, fault := if d.fault = .none then .stroke else d.fault } := by
  refine Eq.trans ?_ (Damper.recordFault_eq .stroke { d with stroke := .idle })
  rcases d.inStroke_cases hp with ⟨e, he⟩ | hu
  · rw [Damper.strokeRunsOut_of_moving he]
    unfold Damper.strokeRunsOutTowards
    split
    · rfl
    · rename_i hf
      refine if_neg fun k => h (.inr ⟨hf, by rw [he, k.1]; rfl, Level.ne_low_iff.mp fun l => ?_⟩)
      have active : openLimitActive c { d with stroke := .idle } = true :=
        openLimitActive_iff.mpr ⟨by rw [hf]; decide, l⟩
      rw [k.2] at active
      cases active
    · rename_i hf
      exact absurd (.inl ⟨hf, by rw [he]; cases e <;> decide⟩) h
  · unfold Damper.strokeRunsOut
    simp only [hu]

/-- Settles O22: the event writes the damper's record and reports of it alone, so that at most an evaluation follows,
which changes no damper (`evaluate_damper?`), and a STROKE fault brings none (`putDamper_evalDue`). -/
theorem strokeTimerRunsOut : Obligations.StrokeTimerRunsOut := by
  intro s p d hh ht hc hd hr hp byTime
  let x := d.strokeRunsOut (s.store.point p)
  have shut : d.pos ≠ .opened := by rcases hp with hp | hp | hp <;> rw [hp] <;> decide
  have hg : strokeTimerOut p s.env (.start s.plant) = moveDamper s.env p x (.start s.plant) := strokeTimerOut_eq hd hr
  have put : strokeTimerOut p s.env (.start s.plant) = putDamper s.env p x (.start s.plant) :=
    hg.trans (moveDamper_of_stays (ev := .start s.plant) hd fun k => shut k.1)
  have test : (putDamper s.env p x (.start s.plant)).plant.test.state ≠ .running := by rw [putDamper_test]; exact ht
  have reports : (putDamper s.env p x (.start s.plant)).ReportsDampers :=
    putDamper_reportsDampers fun r h => absurd h List.not_mem_nil
  refine ⟨fun h => ?_, fun h => ?_⟩
  · have hx : x = { d with pos := if d.pos = .opening then .opened else .closed, stroke := .idle, timed := true } :=
      Damper.strokeRunsOut_of_provesByTime h hp
    have damper (q : Point) : (s.runEvent (strokeTimerOut p)).plant.damper? q =
        (putDamper s.env p x (.start s.plant)).plant.damper? q := by
      rw [State.runEvent_plant, put]
      exact finishEvent_damper?_of_reportsDampers test reports q
    have moves : x.pos ≠ d.pos := by rw [hx]; rcases hp with hp | hp | hp <;> simp [hp]
    refine ⟨_, exec_strokeTimerRunsOut hh p, ?_, State.runEvent_moved_marks hg
      (moveDamper_marks (ev := .start s.plant) hd (.inl moves)), fun q hq => ?_, (State.runEvent_moved_kept hg).1,
      State.runEvent_portsMarked _ s, State.runEvent_outsidePlant _ s⟩
    · rw [damper, putDamper_damper?_self (ev := .start s.plant) s.env x hd, hx]
    · rw [damper, putDamper_damper?_ne _ _ _ hq]; rfl
  · have hx : x = { d with stroke := .idle, fault := if d.fault = .none then .stroke else d.fault } :=
      Damper.strokeRunsOut_of_faults h hp
    have cmd : damperCmd (s.store.point p) x = (s.plant.chan p).cmd := by
      rw [hc p, hh, Plant.damper?_eq_some.mp hd, hx]; rfl
    have plant : (putDamper s.env p x (.start s.plant)).plant =
        s.plant.setChan p { s.plant.chan p with unit := .damper x } := by
      rw [putDamper_plant, Ev.start_plant, hd]
      show s.plant.setChan p { s.plant.chan p with unit := .damper x, cmd := damperCmd (s.store.point p) x } = _
      rw [cmd]
    refine ⟨_, exec_strokeTimerRunsOut hh p, ?_, fun hf => State.runEvent_moved_marks hg
      (moveDamper_marks (ev := .start s.plant) hd (.inr (.inl ?_))), State.runEvent_portsMarked _ s,
      State.runEvent_outsidePlant _ s⟩
    · rw [State.runEvent_plant, put, finishEvent_plant_of_reportsDampers test reports, plant, hx]
      · exact putDamper_evalDue (ev := .start s.plant) hd (by rw [hx])
      · exact (putDamper_onward ..).2.2 ht
    · rw [hx, hf]; simp

end Sys2Proof.Machine
end

section
/-! SUPPORT and the statement about EQRS: a damper's fault cleared says nothing to any other point, and a fan out of
FAULT stands in IDLE or joins the start queue. -/

namespace Sys2Proof.Machine

/-- An order that is an event of the plant: it is answered, and a point that the event marks is in every change set. -/
theorem exec_event_marked {k : OrderKind} {i : PortId} {b1 b2 b3 : Byte} {s : State} {g : Env → Ev → Ev} {p : Point}
    (h : s.PortAtRest i) (ha : portAllowed k i = true)
    (hd : runOrder k i ⟨k.code, b1, b2, b3⟩ (s.taking i ⟨k.code, b1, b2, b3⟩) =
      done ⟨k.code, b1, b2, b3⟩ ((s.taking i ⟨k.code, b1, b2, b3⟩).runEvent g))
    (hp : p ∈ (g s.env (.start s.plant)).marks) :
    ∃ t, exec (orderCommand k i b1 b2 b3) s = .next t ∧ s.Answered t i .done b1 b2 b3 ∧ s.OutsidePlant t ∧
      t.PointMarked p ∧ t.plant = (s.runEvent g).plant := by
  let o : Order := ⟨k.code, b1, b2, b3⟩
  have marked : ((s.taking i o).runEvent g).PointMarked p :=
    State.runEvent_pointMarked g (s.taking i o) p (finishEvent_marks _ _ hp)
  refine ⟨_, exec_done h ha hd, State.replied_answered (o := o) h (State.runEvent_portsMarked g _),
    ⟨rfl, rfl, rfl, rfl, rfl, rfl, rfl, rfl⟩, fun j => ?_, rfl⟩
  rw [State.replied_points]
  exact marked j

/-! ## A damper's fault cleared (R66) -/

theorem Damper.clearFault_eq {c : PointCfg} (ht : 0 < c.tSTK) (d : Damper) :
    d.clearFault c =
      { d with
        fault := .none
        stroke :=
          if (d.pos = .opening ∨ d.pos = .closing ∨ d.pos = .unproven) ∧ d.stroke.isRunning = false then
            .running (8 * c.tSTK) 0
          else d.stroke } := by
  rw [Damper.clearFault, Timer.load_pos (by omega)]

/-- A damper's record written in its position state, with no new fault: its point may be marked. -/
theorem putDamper_of_position {env : Env} {p : Point} {o d : Damper} {ev : Ev} (h : ev.plant.damper? p = some o)
    (hp : d.pos = o.pos) (hf : d.fault = .none) (hc : (ev.plant.chan p).cmd = damperCmd (env.store.point p) d) :
    putDamper env p d ev =
      (ev.setChan p { ev.plant.chan p with unit := .damper d }).markIf
        (o.fault != d.fault || o.timed != d.timed) p := by
  unfold putDamper
  rw [h]
  simp only [hp, hf, bne_self_eq_false, Bool.false_or, Ev.evaluateIf_false, ← hc, ne_eq, not_true_eq_false, and_false,
    or_false, if_false]

/-- An event that only marks points. -/
theorem finishEvent_marked (env : Env) (pl : Plant) (b : Bool) (p : Point) :
    (finishEvent env ((Ev.start pl).markIf b p)).plant = pl := by
  simp [finishEvent, settleAll, settle, Config.settleRounds]

theorem damperCmd_clearFault (c : PointCfg) (d : Damper) : damperCmd c (d.clearFault c) = damperCmd c d := rfl

/-! ## A fan out of FAULT (R91) -/

section Fans
variable {env : Env} {ev : Ev} {p : Point} {f : Fan}

theorem resetFan_frame {R : Plant → Plant → Prop} (F : SeqFrame R) (p : Point) (f : Fan) (env : Env) (ev : Ev) :
    R ev.plant (resetFan p f env ev).plant := by
  unfold resetFan
  dsimp only
  split
  · exact F.trans (putFan_frame F ..) (putFan_frame F ..)
  · exact putFan_frame F ..

variable (h : ev.plant.fan? p = some f)
include h

theorem resetFan_marks (hs : f.state = .fault) : p ∈ (resetFan p f env ev).marks := by
  have marked : p ∈ (putFan env p { f with state := .idle, fault := .none } ev).marks :=
    putFan_marks h (by simp [hs])
  unfold resetFan
  dsimp only
  split
  · exact (putFan_onward ..).1 marked
  · exact marked

theorem resetFan_queueFit (F : ev.plant.QueueFit env.store) : (resetFan p f env ev).plant.QueueFit env.store := by
  have k := putFan_queueFit { f with state := .idle, fault := .none } F h
  unfold resetFan
  dsimp only
  split
  · exact putFan_queueFit _ k (putFan_fan?_self env _ h)
  · exact k

/-- The fan stands in IDLE, or, holding RUN, in QUEUED. -/
theorem resetFan_fan? : (resetFan p f env ev).plant.fan? p =
    some (({ f with state := if f.wantsRun then .queued else .idle, fault := .none } : Fan).norm
      (env.store.point p)) := by
  unfold resetFan
  dsimp only
  split
  · rename_i w
    rw [if_pos (show f.wantsRun = true from w)]
    exact putFan_fan?_self env _ (putFan_fan?_self env _ h)
  · rename_i w
    rw [if_neg (show ¬f.wantsRun = true from w)]
    exact putFan_fan?_self env _ h

end Fans

/-! ## The statement -/

/-- Settles O25: EQRS at a damper writes its record in its position state (`putDamper_of_position`), and at a fan in
FAULT the record of `resetFan_fan?`, which only the evaluation of the start queue reaches after it. -/
theorem eqrsClearsFault : Obligations.EqrsClearsFault := by
  intro s i p b2 b3 hi h
  let o : Order := ⟨OrderKind.eqrs.code, byte p.val, b2, b3⟩
  have allowed : portAllowed .eqrs i = true := by
    cases i with
    | a => exact absurd rfl hi
    | f => rfl
    | b => rfl
  have run : runOrder .eqrs i o (s.taking i o) =
      match (s.plant.chan p).unit with
      | .unused => refuse .state o (s.taking i o)
      | .damper d =>
        if d.fault = .none then refuse .state o (s.taking i o)
        else done o ((s.taking i o).runEvent fun env ev => putDamper env p (d.clearFault (env.store.point p)) ev)
      | .fan f =>
        if f.state = .fault then done o ((s.taking i o).runEvent (resetFan p f))
        else refuse .state o (s.taking i o) := by
    show orderEqrs i o (s.taking i o) = _
    unfold orderEqrs
    simp only [o, pointOf_byte]
    rfl
  refine ⟨fun hu => ?_, fun d hd => ?_, fun f hf => ?_⟩
  · exact exec_refused (k := .eqrs) h allowed (run.trans (by rw [hu]))
  · rw [Plant.damper?_eq_some.mp hd] at run
    refine ⟨fun hn => exec_refused (k := .eqrs) h allowed (run.trans (if_pos hn)), fun hn hc ht => ?_⟩
    let x := d.clearFault (s.store.point p)
    have cmd : (s.plant.chan p).cmd = damperCmd (s.store.point p) x := by
      rw [damperCmd_clearFault, hc p, h.1, Plant.damper?_eq_some.mp hd]
      rfl
    have put : putDamper s.env p x (.start s.plant) =
        (Ev.start (s.plant.setChan p { s.plant.chan p with unit := .damper x })).markIf
          (d.fault != x.fault || d.timed != x.timed) p :=
      putDamper_of_position (ev := .start s.plant) hd rfl rfl cmd
    obtain ⟨t, e, answered, outside, marked, plant⟩ := exec_event_marked (k := .eqrs) (p := p)
      (g := fun env ev => putDamper env p (d.clearFault (env.store.point p)) ev) h allowed (run.trans (if_neg hn))
      (putDamper_marks (ev := .start s.plant) hd (.inr (.inl fun k => hn k.symm)))
    refine ⟨t, e, answered, outside, marked, plant.trans ?_⟩
    show (finishEvent s.env (putDamper s.env p x (.start s.plant))).plant = _
    rw [put, finishEvent_marked, ← Damper.clearFault_eq ht]
  · rw [Plant.fan?_eq_some.mp hf] at run
    refine ⟨fun hn => exec_refused (k := .eqrs) h allowed (run.trans (if_neg hn)), fun hs hm hnt hQ => ?_⟩
    obtain ⟨t, e, answered, outside, marked, plant⟩ := exec_event_marked (k := .eqrs) (p := p) h allowed
      (run.trans (if_pos hs)) (resetFan_marks (ev := .start s.plant) hf hs)
    obtain ⟨mode, test, -⟩ := resetFan_frame sequencersOnly_frame p f s.env (.start s.plant)
    have quiet : (resetFan p f s.env (.start s.plant)).plant.test.state ≠ .running := by rw [test]; exact hnt
    have normal : (resetFan p f s.env (.start s.plant)).plant.mode ≠ .restore := by rw [mode]; exact hm
    have fan := resetFan_fan? (env := s.env) (ev := .start s.plant) hf
    have entries := runEvent_frame entriesKept_frame (resetFan p f) s
      (resetFan_frame entriesKept_frame.toSeqFrame p f s.env (.start s.plant))
    rw [← plant] at entries
    cases hw : f.wantsRun with
    | true =>
      obtain ⟨f', hf', held, fault, state⟩ := finishEvent_queued (env := s.env) quiet normal fan
        (by rw [Fan.norm_state, hw]; rfl) (by rw [Fan.norm_fault]; exact ite_self _)
      exact ⟨t, f', e, answered, outside, marked, entries, (congrArg (Plant.fan? · p) plant).trans hf', fault, held,
        fun x => absurd x (by decide), fun _ => state⟩
    | false =>
      rw [hw] at fan
      have kept := finishEvent_chan_of_queueFit (env := s.env) quiet normal
        (resetFan_queueFit (ev := .start s.plant) hf ⟨(hQ h.1).1, (hQ h.1).2⟩) (q := p) fun g hg => by
          rw [fan] at hg
          cases hg
          simp
      refine ⟨t, _, e, answered, outside, marked, entries,
        (congrArg (Plant.fan? · p) plant).trans ((congrArg Channel.fan? kept).trans fan), ?_, rfl,
        fun _ => rfl, fun x => absurd x (by decide)⟩
      rw [Fan.norm_fault]
      exact ite_self _

end Sys2Proof.Machine
end

section
/-! SUPPORT. A stroke's beginning and the close wait, at the record (R55 to R58, R67), and a damper handed a demand: its
record and CMD at the end of the hand-over, and the fans, of which only its path fans can change. -/

namespace Sys2Proof.Machine

/-! ## At the record -/

section Records
variable {c : PointCfg} {d : Damper} {e : DamperEnd}

/-- A damper on its way to the held demand's end, or there, is driven towards it (Table 3-2). -/
theorem damperCmd_of_towards (hp : d.pos = e.moving ∨ d.pos = e.proven ∨ d.pos = .unproven)
    (hh : d.held.map DamperHeld.target = some e) : damperCmd c d = driveLevel c e := by
  obtain ⟨x, hx, rfl⟩ := Option.map_eq_some_iff.mp hh
  unfold damperCmd
  rcases hp with hp | hp | hp
  · cases ht : x.target <;> simp [hp, ht, DamperEnd.moving]
  · cases ht : x.target <;> simp [hp, ht, DamperEnd.proven]
  · simp [hp, hx]

theorem Damper.strokeTowards_pos (c : PointCfg) (d : Damper) (e : DamperEnd) :
    (d.strokeTowards c e).pos = e.moving ∨ (d.strokeTowards c e).pos = e.proven ∨
      (d.strokeTowards c e).pos = .unproven := by
  rw [Damper.strokeTowards_eq]
  split
  · split
    · exact .inr (.inr rfl)
    · exact .inr (.inl rfl)
  · exact .inl rfl

theorem damperCmd_strokeTowards (c : PointCfg) (hh : d.held.map DamperHeld.target = some e) :
    damperCmd c (d.strokeTowards c e) = driveLevel c e :=
  damperCmd_of_towards (d.strokeTowards_pos c e) (by rw [Damper.strokeTowards_held]; exact hh)

/-- A stroke as it begins, the limits aside (R56). -/
def Damper.begun (c : PointCfg) (d : Damper) : Damper := { d with timed := false, stroke := .running (8 * c.tSTK) 0 }

section Begun
variable (ht : 0 < c.tSTK)
include ht

theorem Damper.strokeTowards_moves (h : limitActive c d e = false) :
    d.strokeTowards c e = { d.begun c with pos := e.moving } := by
  rw [Damper.strokeTowards_of_inactive h, Timer.load_pos (by omega)]
  rfl

omit ht in
theorem Damper.strokeTowards_proves (h : limitActive c d e = true) (ho : limitActive c d e.other = false) :
    d.strokeTowards c e = { d.begun c with pos := e.proven, stroke := .idle } := by
  rw [Damper.strokeTowards_eq, if_pos h, if_neg (by rw [ho]; decide)]
  rfl

theorem Damper.strokeTowards_conflicts (h : limitActive c d e = true) (ho : limitActive c d e.other = true) :
    d.strokeTowards c e =
      { d.begun c with pos := .unproven, fault := if d.fault = .none then .conflict else d.fault } := by
  rw [Damper.strokeTowards_eq, if_pos h, if_pos ho, Damper.recordFault_eq, Timer.load_pos (by omega)]
  rfl

/-- Under TWO-LIMIT (R56). -/
theorem Damper.strokeTowards_twoLimit (hf : c.feedback = .twoLimit) :
    (d.endLevel e = .low → d.endLevel e.other = .high →
      d.strokeTowards c e = { d.begun c with pos := e.proven, stroke := .idle }) ∧
    (d.endLevel e = .low → d.endLevel e.other = .low →
      d.strokeTowards c e =
        { d.begun c with pos := .unproven, fault := if d.fault = .none then .conflict else d.fault }) ∧
    (d.endLevel e = .high → d.strokeTowards c e = { d.begun c with pos := e.moving }) := by
  have active {e : DamperEnd} (h : d.endLevel e = .low) : limitActive c d e = true :=
    (limitActive_twoLimit hf d e).mpr h
  have inactive {e : DamperEnd} (h : d.endLevel e = .high) : limitActive c d e = false := by
    rw [Bool.eq_false_iff, ne_eq, limitActive_twoLimit hf, h]; decide
  exact ⟨fun hl ho => Damper.strokeTowards_proves (active hl) (inactive ho),
    fun hl ho => Damper.strokeTowards_conflicts ht (active hl) (active ho),
    fun hl => Damper.strokeTowards_moves ht (inactive hl)⟩

/-- Under OPEN-LIMIT: the closed limit is none (R52, R56). -/
theorem Damper.strokeTowards_openLimit (hf : c.feedback = .openLimit) :
    (e = .openEnd → d.endLevel e = .low →
      d.strokeTowards c e = { d.begun c with pos := .opened, stroke := .idle }) ∧
    (e = .openEnd → d.endLevel e = .high → d.strokeTowards c e = { d.begun c with pos := .opening }) ∧
    (e = .closedEnd → d.strokeTowards c e = { d.begun c with pos := .closing }) := by
  have inactive {e : DamperEnd} (h : e = .openEnd → d.fbaFilt.filtered = .high) : limitActive c d e = false := by
    rw [Bool.eq_false_iff, ne_eq, limitActive_openLimit hf]
    exact fun k => absurd ((h k.1).symm.trans k.2) (by decide)
  refine ⟨?_, ?_, ?_⟩
  · rintro rfl hl
    exact Damper.strokeTowards_proves ((limitActive_openLimit hf d _).mpr ⟨rfl, hl⟩)
      (inactive fun k => absurd k (by decide))
  · rintro rfl hl
    exact Damper.strokeTowards_moves ht (inactive fun _ => hl)
  · rintro rfl
    exact Damper.strokeTowards_moves ht (inactive fun k => absurd k (by decide))

end Begun

/-- A CLOSE demand meets a turning path fan (R58, R67). -/
theorem Damper.takeDemand_waits {src : Source} (hh : d.held.map DamperHeld.target ≠ some .closedEnd)
    (hs : src ≠ .override) :
    d.takeDemand c true .closedEnd src =
      { d with
        held := some { target := .closedEnd, source := src }
        pos := .waitFan
        stroke := .idle
        timed := false } := by
  unfold Damper.takeDemand
  dsimp only
  rw [if_neg hh, if_pos (by simpa using hs)]
  rfl

/-- A demand that is not held begins a stroke, but for the close wait (R56 to R58). -/
theorem Damper.takeDemand_strokes {turning : Bool} {src : Source} (hh : d.held.map DamperHeld.target ≠ some e)
    (hw : e = .closedEnd → turning = false ∨ src = .override) :
    d.takeDemand c turning e src =
      ({ d with held := some { target := e, source := src } } : Damper).strokeTowards c e := by
  unfold Damper.takeDemand
  dsimp only
  rw [if_neg hh]
  cases e with
  | openEnd => rfl
  | closedEnd =>
    refine if_neg fun k => ?_
    rw [Bool.and_eq_true, bne_iff_ne] at k
    rcases hw rfl with w | w
    · rw [w] at k; exact absurd k.1 (by decide)
    · exact k.2 w

/-- A demand of the action held replaces the source (R55). -/
theorem Damper.takeDemand_held {turning : Bool} {src : Source} (hh : d.held.map DamperHeld.target = some e) :
    d.takeDemand c turning e src =
      if d.pos = .waitFan ∧ e = .closedEnd ∧ src = .override then
        ({ d with held := some { target := e, source := src } } : Damper).strokeTowards c .closedEnd
      else { d with held := some { target := e, source := src } } := by
  unfold Damper.takeDemand
  dsimp only
  rw [if_pos hh]

end Records

/-! ## A damper handed a demand -/

theorem FanState.turning_of_energised {x : FanState} (h : x.energised = true) : x.turning = true := by
  cases x <;> simp [FanState.energised, FanState.turning] at h ⊢

section Handed
variable {env : Env} {ev : Ev} {p q : Point}

/-- The trip of a fan with a time to run down reaches no other point: the fan goes on turning (R83, R84). -/
theorem interlockTrip_chan_of_time (hq : ev.plant.fan? q = none) {y : Point} (ht : 0 < (env.store.point y).tRD) :
    (interlockTrip env ev y).plant.chan q = ev.plant.chan q := by
  unfold interlockTrip
  split
  · rfl
  · rename_i f hf
    split
    · rename_i he
      have ne : q ≠ y := by rintro rfl; rw [hq] at hf; cases hf
      have turns : f.state.turning = true := FanState.turning_of_energised (Bool.and_eq_true_iff.mp he).1
      rw [enterRunDown_eq env hf, if_neg (by omega)]
      exact putFan_chan_of_turning hf (by rw [turns]; rfl) ne
    · rfl

theorem tripPathFans_chan_of_time (hq : ev.plant.fan? q = none)
    (ht : ∀ y ∈ env.store.pathFans p, 0 < (env.store.point y).tRD) :
    (tripPathFans env p ev).plant.chan q = ev.plant.chan q := by
  have key (l : List Point) (hl : ∀ y ∈ l, 0 < (env.store.point y).tRD) {x : Ev} (hx : x.plant.fan? q = none) :
      (l.foldl (interlockTrip env) x).plant.chan q = x.plant.chan q := by
    induction l generalizing x with
    | nil => rfl
    | cons y ys ih =>
      have one := interlockTrip_chan_of_time (env := env) hx (hl y List.mem_cons_self)
      rw [List.foldl_cons, ih (fun z hz => hl z (List.mem_cons_of_mem _ hz)) (by rw [Plant.fan?, one]; exact hx), one]
  exact key _ ht hq

/-- A damper's own channel once its record has moved, in the close wait too if each path fan has a time to run down. -/
theorem moveDamper_chan_self_of_time {o d : Damper} (h : ev.plant.damper? p = some o)
    (hd : d.pos ≠ .waitFan ∨ ∀ y ∈ env.store.pathFans p, 0 < (env.store.point y).tRD) :
    (moveDamper env p d ev).plant.chan p =
      { ev.plant.chan p with unit := .damper d, cmd := damperCmd (env.store.point p) d } := by
  rcases hd with hd | hd
  · exact moveDamper_chan_self h fun _ => hd
  · have written := putDamper_chan_self (env := env) d h
    rw [moveDamper_eq h]
    split
    · rw [tripPathFans_chan_of_time (by rw [Plant.fan?, written]; rfl) hd, written]
    · exact written

theorem handDamper_eq {d : Damper} (h : ev.plant.damper? p = some d) (e : DamperEnd) (src : Source) :
    handDamper env p e src ev =
      moveDamper env p (d.takeDemand (env.store.point p) (anyPathFanTurning env.store ev.plant p) e src) ev := by
  unfold handDamper
  rw [h]

end Handed

end Sys2Proof.Machine
end

section
/-! SUPPORT and the statement about a stroke's beginning, the close wait and a demand handed over. A fan handed a demand
stays among the states that turn or among those that do not, so that its channel alone changes. -/

namespace Sys2Proof.Machine

/-! ## The record of a fan handed a demand -/

section Records
variable {c : PointCfg} {f : Fan} (h : f.TableSound c)
include h

theorem Fan.TableSound.wait_eq_none (hs : f.state ≠ .queued) : f.wait = none := by
  obtain ⟨-, -, -, wait, -⟩ := h
  cases e : f.wait with
  | none => rfl
  | some r => exact absurd (wait (by rw [e]; rfl)) hs

theorem Fan.TableSound.fault_eq_none (hs : f.state ≠ .fault) : f.fault = .none := by
  obtain ⟨-, -, -, -, fault, -⟩ := h
  have rest : (f.fault != .none) = false := by rw [fault]; simpa using hs
  exact bne_eq_false_iff_eq.mp rest

theorem Fan.TableSound.driveAlarm_eq :
    f.driveAlarm = (driveFaultIndicated c f.fbbFilt.filtered && !f.state.energised) := by
  obtain ⟨-, -, -, -, -, alarm, -⟩ := h
  exact alarm

/-- A sound record with another held demand and speed is in its normal form. -/
theorem Fan.TableSound.norm_asked (held : Option FanHeld) (speed : SpeedRef) :
    ({ f with held := held, speed := speed } : Fan).norm c = { f with held := held, speed := speed } := by
  show { f.norm c with held := held, speed := speed } = _
  rw [h.norm_eq]

/-- So is one that is not energised and joins the queue or goes to rest. -/
theorem Fan.TableSound.norm_moved {s : FanState} (held : Option FanHeld) (hf : f.state ≠ .fault) (hs : s ≠ .fault)
    (he : s.energised = f.state.energised) :
    ({ f with held := held, state := s } : Fan).norm c =
      { f with held := held, state := s, wait := if s = .queued then f.wait else none } := by
  have alarm := h.driveAlarm_eq
  rw [← he] at alarm
  simp only [Fan.norm, if_neg hs, h.fault_eq_none hf, ← alarm]

end Records

/-- The record of a fan that a demand stops (R77, R84). -/
def Fan.stopped (c : PointCfg) (f : Fan) : Fan :=
  { f with
    state := .runDown
    runDown := .running (8 * c.tRD) 0
    proofLimit := .idle
    proof := { f.proof with gate := .idle, count := 0, inRun := 0, outRun := 0 }
    speed := { applied := 0, pending := none, phase := 0 }
    driveAlarm := driveFaultIndicated c f.fbbFilt.filtered }

theorem Fan.ranDown_eq_stopped {c : PointCfg} {f : Fan} (ht : 0 < c.tRD) (hw : f.wait = none) (hf : f.fault = .none) :
    f.ranDown c = f.stopped c := by
  have load : Timer.load (8 * c.tRD) = .running (8 * c.tRD) 0 := Timer.load_pos (by omega)
  rw [Fan.ranDown, if_neg (by omega)]
  simp [Fan.norm, Fan.toRunDown, Fan.deEnergise, Fan.stopped, RunProof.stop, RunProof.clearCounters, SpeedRef.atRest,
    FanState.energised, load, hw, hf]

/-! ## The queue's evaluation -/

section Written
variable {env : Env} {p q : Point} {o f : Fan} {ev : Ev}

theorem noteJoining_evalDue (p : Point) (ev : Ev) : (ev.noteJoining p).evalDue = ev.evalDue := by
  unfold Ev.noteJoining; split <;> rfl

/-- A fan that joins the queue or leaves it brings an evaluation (R104). -/
theorem queueFollows_evalDue (h : ¬(o.state = .queued ↔ f.state = .queued)) :
    (queueFollows env p o f ev).evalDue = true := by
  unfold queueFollows
  split
  · rw [noteJoining_evalDue]; simp
  · split
    · simp
    · rename_i h1 h2
      exact absurd ⟨fun x => by_contra fun y => h2 ⟨x, y⟩, fun x => by_contra fun y => h1 ⟨y, x⟩⟩ h

theorem schedulerFollows_evalDue (hs : o.state ≠ .starting) (h : ¬(o.state = .queued ↔ f.state = .queued)) :
    (schedulerFollows env p o f ev).evalDue = true := by
  obtain ⟨b, e⟩ := schedulerFollows_eq env p o f ev
  rw [e, if_neg fun x => hs x.1, Ev.evaluateIf_evalDue, queueFollows_evalDue h, Bool.true_or]

variable (ho : ev.plant.fan? p = some o)
include ho

theorem putFan_evalDue (hs : o.state ≠ .starting) (ht : o.state.turning = false)
    (h : ¬(o.state = .queued ↔ f.state = .queued)) : (putFan env p f ev).evalDue = true := by
  obtain ⟨b, r, c, hc, e⟩ := putFan_eq env p f ho
  have stays : c = false := Bool.eq_false_iff.mpr fun x => by
    rw [(hc x).1] at ht
    cases ht
  subst stays
  rw [e]
  cases r <;> exact schedulerFollows_evalDue (f := f.norm (env.store.point p)) hs h

/-- A record written in its state and with its drive-alarm flag leaves the scheduler. -/
theorem putFan_sched_same (hs : f.state = o.state)
    (ha : (f.norm (env.store.point p)).driveAlarm = o.driveAlarm) :
    (putFan env p f ev).plant.sched = ev.plant.sched := by
  obtain ⟨ev', hs', e⟩ := putFan_sched env f ho
  rw [e, schedulerFollows_same (f := f.norm (env.store.point p)) hs ha, hs']

end Written

/-! ## A fan's channel alone -/

/-- The point is a fan still, and no other channel has changed. -/
structure Plant.FanAlone (p : Point) (a b : Plant) : Prop where
  fan : b.damper? p = none
  others : ∀ q, q ≠ p → b.chan q = a.chan q

section Alone
variable {p q : Point} {a b c : Plant}

theorem Plant.FanAlone.trans (h : a.FanAlone p b) (k : b.FanAlone p c) : a.FanAlone p c :=
  ⟨k.fan, fun q hq => (k.others q hq).trans (h.others q hq)⟩

theorem Plant.FanAlone.damper? (h : a.FanAlone p b) (ha : a.damper? p = none) (q : Point) :
    b.damper? q = a.damper? q := by
  by_cases e : q = p
  · subst e; exact h.fan.trans ha.symm
  · rw [Plant.damper?, h.others q e, Plant.damper?]

theorem Plant.FanAlone.pathOpen (h : a.FanAlone p b) (ha : a.damper? p = none) (st : Store) (q : Point) :
    pathOpen st b q = pathOpen st a q := by
  have opens : b.isOpen = a.isOpen := funext fun d => by rw [Plant.isOpen, h.damper? ha d, Plant.isOpen]
  rw [Machine.pathOpen, Machine.pathOpen, opens]

end Alone

section Handed
variable {env : Env} {p : Point} {o f : Fan} {w : FanWant} {src : Source} {v : Nat} {ev : Ev}
  (ho : ev.plant.fan? p = some o)
include ho

/-- A record written that turns as before. -/
theorem putFan_fanAlone (ht : f.state.turning = o.state.turning) : ev.plant.FanAlone p (putFan env p f ev).plant :=
  ⟨Plant.damper?_of_fan? (putFan_fan?_self env f ho), fun _ hq => putFan_chan_of_turning ho ht hq⟩

/-- An energised fan with a time to run down turns on in RUNDOWN. -/
theorem enterRunDown_fanAlone (he : o.state.energised = true) (ht : 0 < (env.store.point p).tRD) :
    ev.plant.FanAlone p (enterRunDown env p ev).plant := by
  rw [enterRunDown_eq env ho, if_neg (by omega)]
  exact putFan_fanAlone ho (FanState.turning_of_energised he).symm

/-! ## What `handFan` writes, by state and demand (R76 to R78, R87) -/

/-- A demand recorded. -/
def Fan.asked (w : FanWant) (src : Source) (f : Fan) : Fan := { f with held := some { want := w, source := src } }

theorem handFan_queues (hs : o.state = .idle) :
    handFan env p (.run v) src ev = putFan env p { o.asked (.run v) src with state := .queued } ev := by
  unfold handFan
  simp only [ho, hs, Fan.asked]

theorem handFan_leaves (hs : o.state = .queued) :
    handFan env p .stop src ev = putFan env p { o.asked .stop src with state := .idle } ev := by
  unfold handFan
  simp only [ho, hs, Fan.asked]

theorem handFan_requests (hs : o.state = .queued) :
    handFan env p (.run v) src ev = (putFan env p (o.asked (.run v) src) ev).evaluateIf true := by
  unfold handFan
  simp only [ho, hs, Fan.asked]

theorem handFan_records (hs : (o.state = .idle ∧ w = .stop) ∨ o.state = .runDown ∨ o.state = .fault) :
    handFan env p w src ev = putFan env p (o.asked w src) ev := by
  unfold handFan
  rcases hs with ⟨hs, rfl⟩ | hs | hs <;> simp only [ho, hs, Fan.asked]

theorem handFan_stops (he : o.state.energised = true) :
    handFan env p .stop src ev = enterRunDown env p (putFan env p (o.asked .stop src) ev) := by
  unfold handFan
  cases hs : o.state <;> simp only [hs, FanState.energised, Bool.false_eq_true] at he <;> simp only [ho, hs, Fan.asked]

theorem handFan_runs (he : o.state.energised = true) :
    handFan env p (.run v) src ev =
      let x := putFan env p { o.asked (.run v) src with speed := o.speed.take (env.store.point p) v } ev
      if src ≠ .override ∧ pathOpen env.store x.plant p = false then enterRunDown env p x else x := by
  unfold handFan
  cases hs : o.state <;> simp only [hs, FanState.energised, Bool.false_eq_true] at he <;> simp only [ho, hs, Fan.asked]

/-- No other channel changes with a fan that has a time to run down. -/
theorem handFan_fanAlone (ht : 0 < (env.store.point p).tRD) : ev.plant.FanAlone p (handFan env p w src ev).plant := by
  have stops {g : Fan} (hs : g.state = o.state) (he : o.state.energised = true) :
      ev.plant.FanAlone p (enterRunDown env p (putFan env p g ev)).plant :=
    (putFan_fanAlone ho (by rw [hs])).trans
      (enterRunDown_fanAlone (putFan_fan?_self env g ho) (by rw [Fan.norm_state, hs]; exact he) ht)
  by_cases he : o.state.energised = true
  · cases w with
    | stop => rw [handFan_stops ho he]; exact stops rfl he
    | run v =>
      rw [handFan_runs ho he]
      dsimp only
      split
      · exact stops rfl he
      · exact putFan_fanAlone ho rfl
  · by_cases hr : o.state = .runDown ∨ o.state = .fault
    · rw [handFan_records ho (.inr hr)]; exact putFan_fanAlone ho rfl
    · have rest : o.state = .idle ∨ o.state = .queued := by
        cases hs : o.state <;> simp [hs, FanState.energised] at he hr ⊢
      rcases rest with hs | hs
      · cases w with
        | stop => rw [handFan_records ho (.inl ⟨hs, rfl⟩)]; exact putFan_fanAlone ho rfl
        | run v => rw [handFan_queues ho hs]; exact putFan_fanAlone ho (by rw [hs]; rfl)
      · cases w with
        | stop => rw [handFan_leaves ho hs]; exact putFan_fanAlone ho (by rw [hs]; rfl)
        | run v => rw [handFan_requests ho hs]; exact putFan_fanAlone ho rfl

end Handed

end Sys2Proof.Machine
end

section
/-! SUPPORT and the statement about a stroke's beginning, the close wait, and a demand handed to a damper and to a
fan. -/

namespace Sys2Proof.Machine

/-- A damper handed a demand: its channel, and the fans unless it leaves OPEN. -/
theorem handDamper_result {env : Env} {ev : Ev} {p : Point} {d : Damper} {e : DamperEnd} {src : Source}
    (hd : ev.plant.damper? p = some d) :
    let x := d.takeDemand (env.store.point p) (anyPathFanTurning env.store ev.plant p) e src
    let t := (handDamper env p e src ev).plant
    (x.pos ≠ .waitFan ∨ ∀ q ∈ env.store.pathFans p, 0 < (env.store.point q).tRD) →
      t.chan p = { ev.plant.chan p with unit := .damper x, cmd := damperCmd (env.store.point p) x } ∧
        (d.pos ≠ .opened ∨ x.pos = .opened → ∀ q, t.fan? q = ev.plant.fan? q) := by
  intro x t hx
  have moved : t = (moveDamper env p x ev).plant := congrArg Ev.plant (handDamper_eq hd e src)
  rw [moved]
  refine ⟨moveDamper_chan_self_of_time hd hx, fun hp q => ?_⟩
  rw [moveDamper_of_stays hd fun k => hp.elim (fun z => z k.1) k.2]
  exact putDamper_fan? ..

section Handed
variable {env : Env} {p : Point} {f : Fan} {w : FanWant} {src : Source} {v : Nat} {ev : Ev}
  (ho : ev.plant.fan? p = some f) (hf : f.TableSound (env.store.point p))
include ho hf

theorem putFan_asked_fan? (w : FanWant) (src : Source) (speed : SpeedRef) :
    (putFan env p { f.asked w src with speed := speed } ev).plant.fan? p =
      some { f.asked w src with speed := speed } :=
  (putFan_fan?_self env _ ho).trans (congrArg some (hf.norm_asked ..))

theorem putFan_asked_sched (w : FanWant) (src : Source) (speed : SpeedRef) :
    (putFan env p { f.asked w src with speed := speed } ev).plant.sched = ev.plant.sched :=
  putFan_sched_same ho rfl (hf.driveAlarm_eq.symm ▸ rfl)

/-- A demand recorded alone. -/
theorem handFan_recorded (hs : (f.state = .idle ∧ w = .stop) ∨ f.state = .runDown ∨ f.state = .fault) :
    (handFan env p w src ev).plant.fan? p = some (f.asked w src) ∧
      (handFan env p w src ev).plant.sched = ev.plant.sched := by
  rw [handFan_records ho hs]
  exact ⟨putFan_asked_fan? ho hf w src f.speed, putFan_asked_sched ho hf w src f.speed⟩

/-- RUN takes IDLE to QUEUED (R76, R103). -/
theorem handFan_queued (hs : f.state = .idle) :
    (handFan env p (.run v) src ev).plant.fan? p = some { f.asked (.run v) src with state := .queued } ∧
      p ∈ (handFan env p (.run v) src ev).plant.sched.queue ∧ (handFan env p (.run v) src ev).evalDue = true := by
  rw [handFan_queues ho hs]
  refine ⟨(putFan_fan?_self env _ ho).trans (congrArg some ?_), ?_,
    putFan_evalDue ho (by simp [hs]) (by rw [hs]; rfl) (by simp [hs])⟩
  · exact hf.norm_moved _ (by simp [hs]) (by decide) (by rw [hs]; rfl)
  · rw [putFan_queue env _ ho, queueAfter, if_pos ⟨by simp [hs], rfl⟩]
    exact mem_queueInsert.mpr (.inl rfl)

/-- RUN handed to a QUEUED fan is recorded, and the queue evaluated (R104). -/
theorem handFan_requested (hs : f.state = .queued) :
    (handFan env p (.run v) src ev).plant.fan? p = some (f.asked (.run v) src) ∧
      (handFan env p (.run v) src ev).plant.sched = ev.plant.sched ∧
      (handFan env p (.run v) src ev).evalDue = true := by
  rw [handFan_requests ho hs]
  exact ⟨putFan_asked_fan? ho hf _ src f.speed, putFan_asked_sched ho hf _ src f.speed, by simp⟩

/-- STOP takes QUEUED to IDLE (R76, R103). -/
theorem handFan_left (hs : f.state = .queued) :
    (handFan env p .stop src ev).plant.fan? p = some { f.asked .stop src with state := .idle, wait := none } ∧
      p ∉ (handFan env p .stop src ev).plant.sched.queue ∧ (handFan env p .stop src ev).evalDue = true := by
  rw [handFan_leaves ho hs]
  refine ⟨(putFan_fan?_self env _ ho).trans (congrArg some ?_), ?_,
    putFan_evalDue ho (by simp [hs]) (by rw [hs]; rfl) (by simp [hs])⟩
  · exact hf.norm_moved _ (by simp [hs]) (by decide) (by rw [hs]; rfl)
  · rw [putFan_queue env _ ho, queueAfter, if_neg fun x => x.1 hs, if_pos ⟨hs, by simp⟩]
    simp

section Energised
variable (he : f.state.energised = true)
include he

/-- An energised fan that runs down stands in RUNDOWN with its time (R77, R84). -/
theorem enterRunDown_asked (ht : 0 < (env.store.point p).tRD) (w : FanWant) (src : Source) (speed : SpeedRef) :
    let t := (enterRunDown env p (putFan env p { f.asked w src with speed := speed } ev)).plant
    t.fan? p = some ((f.asked w src).stopped (env.store.point p)) ∧ (t.chan p).cmd = false := by
  have written := putFan_asked_fan? ho hf w src speed
  have down : ({ f.asked w src with speed := speed } : Fan).ranDown (env.store.point p) =
      (f.asked w src).stopped (env.store.point p) :=
    Fan.ranDown_eq_stopped ht
      (hf.wait_eq_none fun x => by rw [x] at he; cases he) (hf.fault_eq_none fun x => by rw [x] at he; cases he)
  refine ⟨?_, by rw [enterRunDown_chan_self written]⟩
  rw [enterRunDown_fan? env written, if_pos rfl, down]

theorem handFan_stopped (ht : 0 < (env.store.point p).tRD) :
    (handFan env p .stop src ev).plant.fan? p = some ((f.asked .stop src).stopped (env.store.point p)) ∧
      ((handFan env p .stop src ev).plant.chan p).cmd = false := by
  rw [handFan_stops ho he]
  exact enterRunDown_asked ho hf he ht .stop src f.speed

omit hf in
/-- The paths as they are when the new speed is taken. -/
theorem handFan_runs_paths : handFan env p (.run v) src ev =
    let x := putFan env p { f.asked (.run v) src with speed := f.speed.take (env.store.point p) v } ev
    if src ≠ .override ∧ pathOpen env.store ev.plant p = false then enterRunDown env p x else x := by
  have alone : ev.plant.FanAlone p
      (putFan env p { f.asked (.run v) src with speed := f.speed.take (env.store.point p) v } ev).plant :=
    putFan_fanAlone ho rfl
  rw [handFan_runs ho he]
  simp only [alone.pathOpen (Plant.damper?_of_fan? ho)]

/-- A path is shut: the fan runs down (R77). -/
theorem handFan_blocked (ht : 0 < (env.store.point p).tRD)
    (hb : src ≠ .override ∧ pathOpen env.store ev.plant p = false) :
    (handFan env p (.run v) src ev).plant.fan? p = some ((f.asked (.run v) src).stopped (env.store.point p)) ∧
      ((handFan env p (.run v) src ev).plant.chan p).cmd = false := by
  rw [handFan_runs_paths ho he]
  dsimp only
  rw [if_pos hb]
  exact enterRunDown_asked ho hf he ht ..

/-- The speed of an energised fan (R78). -/
theorem handFan_speed (hb : ¬(src ≠ .override ∧ pathOpen env.store ev.plant p = false)) :
    (handFan env p (.run v) src ev).plant.fan? p =
        some { f.asked (.run v) src with speed := f.speed.take (env.store.point p) v } ∧
      ((handFan env p (.run v) src ev).plant.chan p).cmd = true ∧
      (handFan env p (.run v) src ev).plant.sched = ev.plant.sched := by
  rw [handFan_runs_paths ho he]
  dsimp only
  rw [if_neg hb]
  refine ⟨putFan_asked_fan? ho hf .., ?_, putFan_asked_sched ho hf ..⟩
  rw [putFan_chan _ ho (.inl rfl), if_pos rfl]
  exact he

end Energised

end Handed

/-! ## The statement -/

/-- Settles O23: a stroke begins as the limits of the arrangement stand (`Damper.strokeTowards_eq`), a demand is taken
by what the record holds (`Damper.takeDemand_waits`, `Damper.takeDemand_strokes`, `Damper.takeDemand_held`), and a
hand-over writes one record, with the trips that follow a damper (`moveDamper_chan_self_of_time`) and none that follow a
fan (`handFan_fanAlone`). -/
theorem strokeOrCloseWait : Obligations.StrokeOrCloseWait := by
  refine ⟨fun c d e ht hh => ?_, fun c d turning src hh => ⟨?_, fun hs => ?_⟩, fun c d turning e src => ⟨?_, ?_⟩,
    fun env ev p d e src hd => ?_, fun env ev p f w src ho hf ht => ?_⟩
  · intro d' begun target opposite
    have level : target = d.endLevel e := by cases e <;> rfl
    have other : opposite = d.endLevel e.other := by cases e <;> rfl
    rw [level, other]
    exact ⟨(damperCmd_strokeTowards c hh).trans (by cases e <;> rfl), Damper.strokeTowards_twoLimit ht,
      Damper.strokeTowards_openLimit ht, fun hf => Damper.strokeTowards_moves ht (limitActive_timed hf d e)⟩
  · rintro rfl hs
    have waits := Damper.takeDemand_waits (c := c) hh hs
    exact ⟨waits, by rw [waits]; rfl⟩
  · exact Damper.takeDemand_strokes hh fun _ => hs
  · rintro hh rfl
    exact Damper.takeDemand_strokes hh fun k => absurd k (by decide)
  · exact Damper.takeDemand_held
  · intro c x t hx
    obtain ⟨chan, fans⟩ := handDamper_result hd hx
    exact ⟨Plant.damper?_eq_some.mpr (by rw [chan]), by rw [chan], fans⟩
  · intro c t asked stopped blocked
    have alone : ev.plant.FanAlone p t := handFan_fanAlone ho ht
    refine ⟨fun hs => ⟨?_, ?_⟩, fun hs => ⟨?_, ?_⟩, fun he => ⟨?_, ?_⟩, fun hs => handFan_recorded ho hf (.inr hs),
      fun q hq => congrArg Channel.fan? (alone.others q hq), alone.damper? (Plant.damper?_of_fan? ho)⟩
    · rintro v rfl
      exact handFan_queued ho hf hs
    · rintro rfl
      exact handFan_recorded ho hf (.inl ⟨hs, rfl⟩)
    · rintro v rfl
      exact handFan_requested ho hf hs
    · rintro rfl
      exact handFan_left ho hf hs
    · rintro rfl
      exact handFan_stopped ho hf he ht
    · rintro v rfl
      exact ⟨handFan_blocked ho hf he ht, handFan_speed ho hf he⟩

end Sys2Proof.Machine
end

section
/-! SUPPORT and the statements about the run-proof arithmetic, the speed reference, the rising edge of FBA and the period
boundary: facts of the fan record alone, and two events that write it and say nothing to any other point. -/

namespace Sys2Proof.Machine

/-! ## The expected count and its band (R95) -/

section Arithmetic
variable {c : PointCfg} {e : Nat}

/-- E is at most 3840, so that it and its band fit the window count. -/
theorem expectedCount_le (hc : c.InRange) {speed : Nat} (hs : speed ≤ 100) : expectedCount c speed ≤ 3840 := by
  obtain ⟨-, -, -, ⟨-, gate⟩, -, -, ⟨-, rate⟩, ⟨-, ppr⟩, -⟩ := hc
  have edges : speed * (c.nRATE * 20) * c.nPPR * c.nGATE ≤ 100 * (180 * 20) * 8 * 64 := by gcongr
  unfold expectedCount
  omega

theorem bandLow_of_counted (h : 8 ≤ e) : bandLow c e = e * (100 - c.nTOL) / 100 := if_pos h

theorem bandLow_of_few (h : e < 8) : bandLow c e = 1 := if_neg (by omega)

theorem bandHigh_of_counted (h : 8 ≤ e) : bandHigh c e = min ((e * (100 + c.nTOL) + 99) / 100) 4095 := if_pos h

theorem bandHigh_of_few (h : e < 8) : bandHigh c e = 4095 := if_neg (by omega)

/-- The tolerance is taken off E, never added. -/
theorem bandLow_le (h : 1 ≤ e) : bandLow c e ≤ e := by
  by_cases he : 8 ≤ e
  · rw [bandLow_of_counted he]
    have below : e * (100 - c.nTOL) ≤ e * 100 := Nat.mul_le_mul_left e (Nat.sub_le _ _)
    omega
  · rw [bandLow_of_few (by omega)]
    exact h

/-- With E = 0 a window without edges is out of band. -/
theorem bandLow_zero : bandLow c 0 = 1 := rfl

theorem le_bandHigh (h : e ≤ 4095) : e ≤ bandHigh c e := by
  by_cases he : 8 ≤ e
  · rw [bandHigh_of_counted he]
    have above : e * 100 ≤ e * (100 + c.nTOL) := Nat.mul_le_mul_left e (Nat.le_add_right _ _)
    omega
  · rw [bandHigh_of_few (by omega)]
    exact h

theorem bandHigh_le : bandHigh c e ≤ 4095 := by
  unfold bandHigh Config.countMax
  split
  · exact Nat.min_le_right _ _
  · exact le_rfl

/-- The band is never empty: E lies in it, or E is 0 and the band is the one of few counts. -/
theorem bandLow_le_bandHigh (h : e ≤ 4095) : bandLow c e ≤ bandHigh c e := by
  rcases Nat.eq_zero_or_pos e with rfl | hp
  · rw [bandLow_zero, bandHigh_of_few (by decide)]
    decide
  · exact (bandLow_le hp).trans (le_bandHigh h)

end Arithmetic

/-- Settles O26, from the bound of E (`expectedCount_le`) and the rounding of each end of the band away from it. -/
theorem expectedCountAndBand : Obligations.ExpectedCountAndBand := by
  intro c speed hc hs e
  have bound : e ≤ 3840 := expectedCount_le hc hs
  refine ⟨rfl, bound, fun h => ⟨bandLow_of_counted h, bandHigh_of_counted h⟩,
    fun h => ⟨bandLow_of_few h, bandHigh_of_few h⟩, bandLow_le, fun h => ?_, le_bandHigh (by omega), bandHigh_le,
    bandLow_le_bandHigh (by omega)⟩
  rw [h, bandLow_zero]
  decide

/-! ## The speed reference within one period (R98) -/

theorem Channel.spdHigh_of_fan {c : PointCfg} {ch : Channel} {f : Fan} (h : ch.unit = .fan f) :
    ch.spdHigh c = (ch.cmd && (c.speedControl == .fixed || decide (f.speed.phase < 2 * f.speed.applied))) := by
  simp [Channel.spdHigh, h]

/-- The numbers below `m` that lie below `n` are the numbers below `n`. -/
theorem range_filter_lt {n m : Nat} (h : n ≤ m) : (List.range m).filter (fun k => decide (k < n)) = List.range n := by
  obtain ⟨d, rfl⟩ := Nat.exists_eq_add_of_le h
  have front : (List.range n).filter (fun k => decide (k < n)) = List.range n :=
    List.filter_eq_self.mpr fun k hk => decide_eq_true (List.mem_range.mp hk)
  have back : ((List.range d).map (n + ·)).filter (fun k => decide (k < n)) = [] := by simp
  rw [List.range_add, List.filter_append, front, back, List.append_nil]

/-- Settles O31: the duty is the test of the phase in `Channel.spdHigh`, over the 200 phases of a period. -/
theorem speedReferenceDuty : Obligations.SpeedReferenceDuty := by
  intro c ch f hf
  refine ⟨fun hc => ?_, fun hc hs => ?_, fun hc hs ha => ?_⟩
  · rw [Channel.spdHigh_of_fan hf, hc, Bool.false_and]
  · rw [Channel.spdHigh_of_fan hf, hc, hs]
    rfl
  · have phase (k : Nat) :
        ({ ch with unit := .fan { f with speed := { f.speed with phase := k } } } : Channel).spdHigh c =
          decide (k < 2 * f.speed.applied) := by
      rw [Channel.spdHigh_of_fan rfl, hs]
      exact congrArg (· && _) hc
    simp only [phase]
    exact range_filter_lt (by omega)

/-! ## Commands outside device reset -/

theorem State.unlessHeld_of_not_held {s : State} (h : s.held = false) (g : State → State) : s.unlessHeld g = g s := by
  simp [State.unlessHeld, h]

/-! ## A rising edge of FBA (R94) -/

theorem countEdge_of_energised {p : Point} {ev : Ev} {f : Fan} (hf : ev.plant.fan? p = some f)
    (he : f.state.energised = true) :
    countEdge p ev = ev.setChan p { ev.plant.chan p with unit := .fan { f with proof := f.proof.edge } } := by
  simp [countEdge, hf, he]

theorem countEdge_of_rest {p : Point} {ev : Ev} {f : Fan} (hf : ev.plant.fan? p = some f)
    (he : f.state.energised = false) : countEdge p ev = ev := by
  simp [countEdge, hf, he]

theorem risingEdge_of_fan {p : Point} {env : Env} {ev : Ev} {f : Fan} (hf : (ev.plant.chan p).unit = .fan f) :
    risingEdge p env ev = countEdge p (ev.setChan p ((ev.plant.chan p).setLine .fba .high)) := by
  simp [risingEdge, hf]

theorem exec_fbaRisingEdge {s : State} (hh : s.held = false) (p : Point) :
    exec (.fbaRisingEdge p) s = .next (s.runEvent (risingEdge p)) := by
  show Host.Outcome.next (edgeChange p s) = _
  simp [edgeChange, hh]

/-- The window count saturates at 4095. -/
theorem RunProof.edge_eq (r : RunProof) :
    r.edge = { r with count := if r.count < 4095 then r.count + 1 else 4095 } := by
  have count : min (r.count + 1) Config.countMax = if r.count < 4095 then r.count + 1 else 4095 := by
    unfold Config.countMax
    split <;> omega
  rw [RunProof.edge, count]

/-- Settles O27: the event writes the channel of its point and brings no mark, report or evaluation. -/
theorem risingEdgeCounts : Obligations.RisingEdgeCounts := by
  intro s p f hh hu
  rw [exec_fbaRisingEdge hh]
  refine congrArg Host.Outcome.next (State.runEvent_quiet ?_)
  rw [risingEdge_of_fan (f := f) hu]
  have line := setLine_fan? (ev := .start s.plant) hu .fba .high
  cases he : f.state.energised with
  | true =>
    rw [countEdge_of_energised line he, Ev.setChan_setChan, Ev.setChan_plant, Plant.chan_setChan_self,
      RunProof.edge_eq]
    rfl
  | false =>
    rw [countEdge_of_rest line he, if_neg (by decide), ← hu]
    rfl

/-! ## A period boundary (R98, R99) -/

theorem exec_periodBoundary {s : State} (hh : s.held = false) (p : Point) :
    exec (.periodBoundary p) s = .next (s.runEvent (boundaryOut p)) :=
  congrArg Host.Outcome.next (State.unlessHeld_of_not_held hh _)

/-- A boundary changes the speed and the proof alone (R99): what stands beside the state and the held demand. -/
theorem Fan.boundary_kept (c : PointCfg) (f : Fan) :
    (f.boundary c).fault = f.fault ∧ (f.boundary c).wait = f.wait ∧ (f.boundary c).driveAlarm = f.driveAlarm := by
  unfold Fan.boundary
  split <;> exact ⟨rfl, rfl, rfl⟩

/-- The record of an energised fan with no wait, no fault and no drive alarm is in its normal form. -/
theorem Fan.norm_eq_self {c : PointCfg} {f : Fan} (he : f.state.energised = true) (hw : f.wait = none)
    (hf : f.fault = .none) (ha : f.driveAlarm = false) : f.norm c = f := by
  unfold Fan.norm
  rw [hw, hf, he, Bool.not_true, Bool.and_false, ite_self, ite_self, ← hw, ← hf, ← ha]

/-- Settles O30: the record written has the state, the fault kind and the drive-alarm flag of the one before, so that
nothing else follows (`putFan_same`). -/
theorem periodBoundaryApplies : Obligations.PeriodBoundaryApplies := by
  intro s p f hh hcmd hf he hw hk ha c
  rw [exec_periodBoundary hh]
  refine congrArg Host.Outcome.next (State.runEvent_quiet ?_)
  have cmd : (s.plant.chan p).cmd = f.state.energised := by
    rw [hcmd p, hh, Plant.fan?_eq_some.mp hf]
    rfl
  have written : boundaryOut p s.env (.start s.plant) = putFan s.env p (f.boundary c) (.start s.plant) := by
    unfold boundaryOut
    rw [Ev.start_plant, hf]
    exact if_pos he
  obtain ⟨state, -⟩ := f.boundary_same c
  obtain ⟨fault, wait, alarm⟩ := f.boundary_kept c
  have normal : (f.boundary c).norm c = f.boundary c :=
    Fan.norm_eq_self (by rw [state, he]) (by rw [wait, hw]) (by rw [fault, hk]) (by rw [alarm, ha])
  rw [written, putFan_same (ev := .start s.plant) hf normal state fault alarm cmd]
  unfold Fan.boundary
  cases f.speed.pending <;> rfl

end Sys2Proof.Machine
end

section
/-! SUPPORT. The end of an event whose reports bring nothing: the evaluation of the start queue, which starts a fan only
under its checks (`evaluationWalk_keeps_checked`), and what such an event leaves of a fan that it writes
(`State.runEvent_wrote_self`, `finishEvent_fan_keeps`). -/

namespace Sys2Proof.Machine

/-! ## The evaluation, with its checks (R105, R106) -/

/-- What a wait reason recorded keeps, and a start made under its checks, the evaluation keeps. -/
theorem evaluationWalk_keeps_checked {env : Env} {P : Plant → Prop} {l : List Point}
    (hw : ∀ p ∈ l, ∀ (x : Ev) (f : Fan) (r : WaitReason), x.plant.fan? p = some f → P x.plant →
      P (setWait p f r x).plant)
    (hs : ∀ p ∈ l, ∀ (x : Ev) (f : Fan), x.plant.fan? p = some f → passedOver env x.plant p f = none →
      candidateWaits env x.plant p = none → P x.plant → P (startFan env p f x).plant)
    (b : Bool) {ev : Ev} (h : P ev.plant) : P (evaluationWalk env b l ev).plant := by
  induction l generalizing b ev with
  | nil => exact h
  | cons p ps ih =>
    have rest := @ih (fun q m => hw q (List.mem_cons_of_mem _ m)) fun q m => hs q (List.mem_cons_of_mem _ m)
    have wait := hw p List.mem_cons_self
    unfold evaluationWalk
    split
    · exact rest _ h
    · rename_i f hf
      split
      · exact rest _ (wait _ f _ hf h)
      · rename_i passed
        split
        · exact rest _ (wait _ f _ hf h)
        · split
          · exact rest _ (wait _ f _ hf h)
          · rename_i admitted
            exact rest _ (hs p List.mem_cons_self _ f hf passed admitted h)

/-- A fan whose drive-alarm flag is set is passed over (R105). -/
theorem passedOver_of_driveAlarm {env : Env} {pl : Plant} {p : Point} {f : Fan} (h : f.driveAlarm = true) :
    passedOver env pl p f ≠ none := by
  unfold passedOver
  rw [h]
  split <;> simp

/-- No candidate passes without a GOOD supply (R106). -/
theorem candidateWaits_of_no_supply {env : Env} {pl : Plant} {p : Point} (h : pl.supply.state ≠ .good) :
    candidateWaits env pl p = some .supply := if_pos h

/-! ## Reports that bring nothing -/

/-- No test is running, and no restore stands complete: a report brings nothing (R44, R124). -/
def Plant.IgnoresReports (pl : Plant) : Prop :=
  pl.test.state ≠ .running ∧ ¬(pl.mode = .restore ∧ restoreComplete pl = true)

/-- A fan in neither IDLE nor FAULT keeps a restore from completing (R44). -/
theorem restoreComplete_of_active {pl : Plant} {p : Point} {f : Fan} (hf : pl.fan? p = some f) (hi : f.state ≠ .idle)
    (hk : f.state ≠ .fault) : restoreComplete pl = false := by
  refine Bool.eq_false_iff.mpr fun h => ?_
  have complete := List.all_eq_true.mp h p (by simp [allPoints])
  simp [hf, hi, hk] at complete

section Ignored
variable {env : Env} {ev : Ev} (hi : ev.plant.IgnoresReports)
include hi

theorem takeReport_ignored (r : Report) : takeReport env ev r = ev := by
  obtain ⟨ht, hm⟩ := hi
  have restore : checkRestore env ev = ev := if_neg hm
  have untested (p : Point) : ev.underTest p = false := by simp [Ev.underTest, ht]
  cases r with
  | damper p pos fault => simp [takeReport, untested]
  | fan p state fault => simp [takeReport, restore, untested]
  | override p => simp [takeReport, untested]
  | restoreCheck => exact restore

theorem foldl_takeReport_ignored (l : List Report) : l.foldl (takeReport env) ev = ev := by
  induction l with
  | nil => rfl
  | cons r rs ih => rw [List.foldl_cons, takeReport_ignored hi, ih]

theorem settle_ignored (n : Nat) : (settle env n ev).plant = ev.plant := by
  induction n generalizing ev with
  | zero => rfl
  | succ n ih =>
    unfold settle
    split
    · rfl
    · rw [foldl_takeReport_ignored (ev := { ev with reports := [] }) hi]
      exact ih (ev := { ev with reports := [] }) hi

/-- What the evaluation keeps, and a change of the joining reports, the end of the event keeps. -/
theorem finishEvent_keeps_checked {P : Plant → Prop}
    (hw : ∀ p ∈ ev.plant.sched.queue, ∀ (x : Ev) (f : Fan) (r : WaitReason), x.plant.fan? p = some f → P x.plant →
      P (setWait p f r x).plant)
    (hs : ∀ p ∈ ev.plant.sched.queue, ∀ (x : Ev) (f : Fan), x.plant.fan? p = some f →
      passedOver env x.plant p f = none → candidateWaits env x.plant p = none → P x.plant →
      P (startFan env p f x).plant)
    (hj : ∀ (pl : Plant) (j : List JoinReport), P pl → P { pl with joinReports := j }) (h : P ev.plant) :
    P (finishEvent env ev).plant := by
  have settled : (settleAll env ev).plant = ev.plant := settle_ignored hi _
  have evaluated : P (if (settleAll env ev).evalDue then evaluate env (settleAll env ev)
      else settleAll env ev).plant := by
    split
    · refine evaluationWalk_keeps_checked ?_ ?_ false (by rw [settled]; exact h) <;> rw [settled]
      · exact hw
      · exact hs
    · rw [settled]; exact h
  exact hj _ _ evaluated

/-- Under a fit queue, a point whose fan, if it has one, is not QUEUED keeps its channel. -/
theorem finishEvent_chan_of_unqueued (F : ev.plant.QueueFit env.store) {q : Point}
    (hq : ∀ f, ev.plant.fan? q = some f → f.state ≠ .queued) :
    (finishEvent env ev).plant.chan q = ev.plant.chan q := by
  have ne {p : Point} (hp : p ∈ ev.plant.sched.queue) : q ≠ p := by
    rintro rfl
    obtain ⟨f, hf, hs⟩ := Plant.isQueued_iff.mp ((F.mem q).mp hp)
    exact hq f hf hs
  exact finishEvent_keeps_checked (P := fun pl => pl.chan q = ev.plant.chan q) hi
    (fun p hp x f r _ hx => (Plant.chan_setChan_ne _ _ (ne hp)).trans hx)
    (fun p hp x f hf _ _ hx => (startFan_chan_ne (ne hp) hf).trans hx) (fun _ _ hx => hx) rfl

/-- A fan goes on with what a wait reason keeps and, where its checks let it start, a start. -/
theorem finishEvent_fan_keeps {K : Fan → Prop} {q : Point} {o : Fan} (ho : ev.plant.fan? q = some o) (hk : K o)
    (hw : ∀ (f : Fan) (r : WaitReason), K f → K { f with wait := some r })
    (hs : ∀ (pl : Plant) (f : Fan), passedOver env pl q f = none → K f →
      K ((f.started (env.store.point q)).norm (env.store.point q))) :
    ∃ f, (finishEvent env ev).plant.fan? q = some f ∧ K f := by
  refine finishEvent_keeps_checked (P := fun pl => ∃ f, pl.fan? q = some f ∧ K f) hi (fun p _ x g r hg hx => ?_)
    (fun p _ x g hg hp _ hx => ?_) (fun _ _ hx => hx) ⟨o, ho, hk⟩ <;> obtain ⟨f, hf, hk⟩ := hx
  · by_cases e : q = p
    · subst e
      obtain rfl : f = g := Option.some.inj (hf.symm.trans hg)
      refine ⟨{ f with wait := some r }, ?_, hw f r hk⟩
      rw [setWait, Ev.setChan_plant, Plant.fan?_setChan, if_pos rfl]; rfl
    · exact ⟨f, (setWait_fan?_ne g r x e).trans hf, hk⟩
  · by_cases e : q = p
    · subst e
      obtain rfl : f = g := Option.some.inj (hf.symm.trans hg)
      exact ⟨_, (startFan_fan? hf q).trans (if_pos rfl), hs x.plant f hp hk⟩
    · exact ⟨f, (startFan_fan? hg q).trans ((if_neg e).trans hf), hk⟩

end Ignored

/-! ## An event that writes one fan's record -/

section Wrote
variable {s : State} {p : Point} {o f : Fan} {g : Env → Ev → Ev}

/-- With no test running and outside RESTORE, whatever record is written. -/
theorem putFan_ignoresReports (ht : s.NoTest) (hm : s.plant.mode ≠ .restore) :
    (putFan s.env p f (.start s.plant)).plant.IgnoresReports := by
  obtain ⟨mode, test, -⟩ := putFan_frame sequencersOnly_frame s.env p f (.start s.plant)
  refine ⟨by rw [test]; exact ht, fun h => hm ?_⟩
  rw [← h.1, mode]
  rfl

variable (hg : g s.env (.start s.plant) = putFan s.env p f (.start s.plant))
include hg

theorem State.runEvent_wrote_entries : s.plant.EntriesKept (s.runEvent g).plant :=
  runEvent_frame entriesKept_frame g s (by rw [hg]; exact putFan_frame entriesKept_frame.toSeqFrame s.env p f _)

variable (ho : s.plant.fan? p = some o)
include ho

/-- A change of state marks the point (R145). -/
theorem State.runEvent_wrote_marked (hs : o.state ≠ f.state) : (s.runEvent g).PointMarked p :=
  State.runEvent_pointMarked g s p (finishEvent_marks _ _ (by rw [hg]; exact putFan_marks (ev := .start s.plant) ho hs))

variable (hi : (putFan s.env p f (.start s.plant)).plant.IgnoresReports)
include hi

/-- A channel that the writing leaves with no QUEUED fan is as the writing leaves it. -/
theorem State.runEvent_wrote_chan (F : s.plant.QueueFit s.store) {q : Point}
    (hq : ∀ x, (putFan s.env p f (.start s.plant)).plant.fan? q = some x → x.state ≠ .queued) :
    (s.runEvent g).plant.chan q = (putFan s.env p f (.start s.plant)).plant.chan q := by
  rw [State.runEvent_plant, hg]
  exact finishEvent_chan_of_unqueued hi (putFan_queueFit (ev := .start s.plant) f F ho) hq

/-- The fan's own channel, if it does not come to wait in the queue. -/
theorem State.runEvent_wrote_self (F : s.plant.QueueFit s.store) (hs : f.state ≠ .queued) :
    (s.runEvent g).plant.chan p =
      { s.plant.chan p with unit := .fan (f.norm (s.store.point p)), cmd := f.state.energised } := by
  rw [State.runEvent_wrote_chan hg ho hi F fun x hx => ?_]
  · rw [putFan_chan (ev := .start s.plant) f ho (.inl rfl), if_pos rfl]
    rfl
  · rw [putFan_fan?_self s.env f (ev := .start s.plant) ho] at hx
    obtain rfl := Option.some.inj hx
    exact hs

end Wrote

end Sys2Proof.Machine
end

section
/-! SUPPORT and the statements about a fan's timers and its drive-fault contact: the gate window ends, the proof limit and
the run-down run out, a drive fault becomes indicated. Each writes one fan's record, and of that record the end of the
event changes at most the wait reason or, from the queue, starts the fan. -/

namespace Sys2Proof.Machine

/-! ## The gate window (R80, R82, R96) -/

/-- The record as its window ends and the next begins, before the counters act. -/
def Fan.nextWindow (c : PointCfg) (f : Fan) : Fan :=
  { f with proof := (f.proof.endWindow c).beginWindow c f.speed.applied }

section Window
variable (c : PointCfg) (f : Fan)

theorem Fan.windowEnds_eq : f.windowEnds c = (f.nextWindow c).actOnCounters c := rfl

/-- The counters move the state and the proof limit, and leave the proof and the speed. -/
theorem Fan.actOnCounters_kept :
    (f.actOnCounters c).proof = f.proof ∧ (f.actOnCounters c).speed = f.speed := by
  unfold Fan.actOnCounters
  split
  iterate 3 · split <;> exact ⟨rfl, rfl⟩
  exact ⟨rfl, rfl⟩

variable {c f}

theorem Fan.actOnCounters_starting (hs : f.state = .starting) :
    f.actOnCounters c = if c.nK ≤ f.proof.inRun then { f with state := .running, proofLimit := .idle } else f := by
  simp only [Fan.actOnCounters, hs]

theorem Fan.actOnCounters_running (hs : f.state = .running) :
    f.actOnCounters c = if c.nK ≤ f.proof.outRun then { f with state := .lost } else f := by
  simp only [Fan.actOnCounters, hs]

theorem Fan.actOnCounters_lost (hs : f.state = .lost) :
    f.actOnCounters c = if c.nK ≤ f.proof.inRun then { f with state := .running } else f := by
  simp only [Fan.actOnCounters, hs]

/-- The states that the counters of the ended window give (R80, R82). -/
theorem Fan.actOnCounters_state (f : Fan) :
    (f.actOnCounters c).state =
      (match f.state with
        | .starting => if c.nK ≤ f.proof.inRun then .running else .starting
        | .running => if c.nK ≤ f.proof.outRun then .lost else .running
        | .lost => if c.nK ≤ f.proof.inRun then .running else .lost
        | x => x) := by
  cases hs : f.state with
  | starting => rw [Fan.actOnCounters_starting hs]; dsimp only; split <;> simp [hs]
  | running => rw [Fan.actOnCounters_running hs]; dsimp only; split <;> simp [hs]
  | lost => rw [Fan.actOnCounters_lost hs]; dsimp only; split <;> simp [hs]
  | _ => simp [Fan.actOnCounters, hs]

/-- The proof limit is cancelled as STARTING is left, and only then (R80). -/
theorem Fan.actOnCounters_proofLimit (f : Fan) :
    (f.state = .starting → (f.actOnCounters c).state = .running → (f.actOnCounters c).proofLimit = .idle) ∧
      ((f.actOnCounters c).state = f.state → (f.actOnCounters c).proofLimit = f.proofLimit) := by
  cases hs : f.state with
  | starting => rw [Fan.actOnCounters_starting hs]; split <;> simp [hs]
  | running => rw [Fan.actOnCounters_running hs]; split <;> simp
  | lost => rw [Fan.actOnCounters_lost hs]; split <;> simp
  | _ => simp [Fan.actOnCounters, hs]

end Window

theorem FanState.active_of_energised {x : FanState} (h : x.energised = true) :
    x ≠ .idle ∧ x ≠ .fault ∧ x ≠ .queued := by
  cases x <;> simp [FanState.energised] at h ⊢

/-- An energised fan that stays energised keeps a restore from completing, so that its event brings nothing to the
resolver even in RESTORE. -/
theorem putFan_ignoresReports_of_energised {s : State} {p : Point} {o f : Fan} (ht : s.NoTest)
    (ho : s.plant.fan? p = some o) (he : f.state.energised = true) :
    (putFan s.env p f (.start s.plant)).plant.IgnoresReports := by
  obtain ⟨-, test, -⟩ := putFan_frame sequencersOnly_frame s.env p f (.start s.plant)
  obtain ⟨idle, fault, -⟩ := FanState.active_of_energised he
  have active := restoreComplete_of_active (putFan_fan?_self s.env f (ev := .start s.plant) ho) idle fault
  refine ⟨by rw [test]; exact ht, fun h => ?_⟩
  rw [active] at h
  cases h.2

/-- A fan's point has no damper record after an event that keeps the kinds of the records. -/
theorem Plant.EntriesKept.damper?_of_fan? {a b : Plant} (h : a.EntriesKept b) {p : Point} {f : Fan}
    (hf : a.fan? p = some f) : b.damper? p = none := by
  obtain ⟨-, -, -, -, kind⟩ := h p
  rw [Plant.kind_of_fan? hf] at kind
  cases hu : (b.chan p).unit with
  | fan x => exact Plant.damper?_of_fan? (Plant.fan?_eq_some.mpr hu)
  | _ => rw [hu] at kind; cases kind

theorem exec_gateTimerRunsOut {s : State} (hh : s.held = false) (p : Point) :
    exec (.gateTimerRunsOut p) s = .next (s.runEvent (gateTimerOut p)) :=
  congrArg Host.Outcome.next (State.unlessHeld_of_not_held hh _)

theorem gateTimerOut_eq {env : Env} {p : Point} {f : Fan} {ev : Ev} (hf : ev.plant.fan? p = some f)
    (he : f.state.energised = true) (hr : f.proof.gate.isRunning = true) :
    gateTimerOut p env ev = putFan env p (f.windowEnds (env.store.point p)) ev := by
  simp [gateTimerOut, hf, he, hr]

/-- Settles O28: the fan turns before and after, so that its record is written at its own point alone
(`putFan_chan_of_turning`), and the evaluation that STARTING left may bring reaches QUEUED fans alone
(`State.runEvent_wrote_chan`). -/
theorem gateWindowEnds : Obligations.GateWindowEnds := by
  intro s p f hh ht hQ hf he hr _ c inBand inRun outRun e
  let x := f.windowEnds c
  have F : s.plant.QueueFit s.store := ⟨(hQ hh).1, (hQ hh).2⟩
  have hg : gateTimerOut p s.env (.start s.plant) = putFan s.env p x (.start s.plant) := gateTimerOut_eq hf he hr
  obtain ⟨energised, held⟩ := f.windowEnds_same c
  have hx : x.state.energised = true := energised.trans he
  have hi := putFan_ignoresReports_of_energised ht hf hx
  have entries := State.runEvent_wrote_entries hg
  have self := State.runEvent_wrote_self hg hf hi F (FanState.active_of_energised hx).2.2
  have other {q : Point} (hq : q ≠ p) (hs : ∀ y, s.plant.fan? q = some y → y.state ≠ .queued) :
      (s.runEvent (gateTimerOut p)).plant.chan q = s.plant.chan q := by
    have written : (putFan s.env p x (.start s.plant)).plant.chan q = s.plant.chan q :=
      putFan_chan_of_turning (ev := .start s.plant) hf
        ((FanState.turning_of_energised hx).trans (FanState.turning_of_energised he).symm) hq
    exact (State.runEvent_wrote_chan hg hf hi F fun y hy => hs y (by rwa [Plant.fan?, written] at hy)).trans written
  have state := (f.nextWindow c).actOnCounters_state (c := c)
  obtain ⟨proof, speed⟩ := (f.nextWindow c).actOnCounters_kept c
  obtain ⟨proven, stays⟩ := (f.nextWindow c).actOnCounters_proofLimit (c := c)
  rw [← Fan.windowEnds_eq] at state proof speed proven stays
  refine ⟨_, _, exec_gateTimerRunsOut hh p, Plant.fan?_eq_some.mpr (congrArg Channel.unit self), proof, state,
    fun hs hr => ⟨proven hs hr, State.runEvent_wrote_marked hg hf ?_⟩, stays,
    held, speed, by rw [self]; exact hx, fun q => ?_, fun q y hq hy hs => ?_,
    entries, State.runEvent_portsMarked _ s, State.runEvent_outsidePlant _ s⟩
  · intro same
    have running : x.state = .running := hr
    rw [hs, running] at same
    cases same
  · cases hy : s.plant.fan? q with
    | none => rw [Plant.damper?, other (by rintro rfl; simp [hf] at hy) (by simp [hy]), Plant.damper?]
    | some y => rw [Plant.damper?_of_fan? hy, entries.damper?_of_fan? hy]
  · rw [Plant.fan?, other hq fun z hz => ?_]
    · exact hy
    · rw [hy] at hz
      exact Option.some.inj hz ▸ hs

/-! ## The proof limit and the run-down (R81, R85) -/

theorem exec_proofLimitTimerRunsOut {s : State} (hh : s.held = false) (p : Point) :
    exec (.proofLimitTimerRunsOut p) s = .next (s.runEvent (proofLimitOut p)) :=
  congrArg Host.Outcome.next (State.unlessHeld_of_not_held hh _)

theorem exec_runDownTimerRunsOut {s : State} (hh : s.held = false) (p : Point) :
    exec (.runDownTimerRunsOut p) s = .next (s.runEvent (runDownTimerOut p)) :=
  congrArg Host.Outcome.next (State.unlessHeld_of_not_held hh _)

theorem proofLimitOut_eq {env : Env} {p : Point} {f : Fan} {ev : Ev} (hf : ev.plant.fan? p = some f)
    (hs : f.state = .starting) (hr : f.proofLimit.isRunning = true) :
    proofLimitOut p env ev = putFan env p (f.toFault .failStart) ev := by
  simp [proofLimitOut, hf, hs, hr]

theorem runDownTimerOut_eq {env : Env} {p : Point} {f : Fan} {ev : Ev} (hf : ev.plant.fan? p = some f)
    (hs : f.state = .runDown) (hr : f.runDown.isRunning = true) :
    runDownTimerOut p env ev = putFan env p f.afterRunDown ev := by
  simp [runDownTimerOut, runDownEnds, hf, hs, hr]

/-- Settles O29: a fan that comes to FAULT or IDLE has its channel as written (`State.runEvent_wrote_self`), and one that
comes to QUEUED is left waiting or started, its run-down over (`finishEvent_fan_keeps`). -/
theorem fanTimersRunOut : Obligations.FanTimersRunOut := by
  intro s p f hh ht hm hQ hf
  have F : s.plant.QueueFit s.store := ⟨(hQ hh).1, (hQ hh).2⟩
  refine ⟨fun hs hr => ?_, fun hs hr => ?_⟩
  · have hg : proofLimitOut p s.env (.start s.plant) = putFan s.env p (f.toFault .failStart) (.start s.plant) :=
      proofLimitOut_eq hf hs hr
    have self := State.runEvent_wrote_self hg hf (putFan_ignoresReports ht hm) F (by simp [Fan.toFault])
    have cmd : ((s.runEvent (proofLimitOut p)).plant.chan p).cmd = false := by rw [self]; rfl
    exact ⟨_, _, exec_proofLimitTimerRunsOut hh p, Plant.fan?_eq_some.mpr (congrArg Channel.unit self), rfl, rfl, rfl,
      rfl, rfl, rfl, rfl, rfl, rfl, rfl, cmd, Channel.spdHigh_of_cmd cmd,
      State.runEvent_wrote_marked hg hf (by simp [hs, Fan.toFault]), State.runEvent_wrote_entries hg,
      State.runEvent_portsMarked _ s, State.runEvent_outsidePlant _ s⟩
  · have hg : runDownTimerOut p s.env (.start s.plant) = putFan s.env p f.afterRunDown (.start s.plant) :=
      runDownTimerOut_eq hf hs hr
    have hi := putFan_ignoresReports (p := p) (f := f.afterRunDown) ht hm
    have marked : (s.runEvent (runDownTimerOut p)).PointMarked p :=
      State.runEvent_wrote_marked hg hf (by rw [hs]; unfold Fan.afterRunDown; dsimp only; split <;> decide)
    cases hw : f.wantsRun with
    | false =>
      have idle : f.afterRunDown.state = .idle := by simp [Fan.afterRunDown, hw]
      have self := State.runEvent_wrote_self hg hf hi F (by rw [idle]; decide)
      exact ⟨_, _, exec_runDownTimerRunsOut hh p, Plant.fan?_eq_some.mpr (congrArg Channel.unit self), fun _ => idle,
        fun h => absurd h (by decide), rfl, rfl, marked, State.runEvent_wrote_entries hg,
        State.runEvent_portsMarked _ s, State.runEvent_outsidePlant _ s⟩
    | true =>
      have queued : f.afterRunDown.state = .queued := by simp [Fan.afterRunDown, hw]
      obtain ⟨f', hf', state, runDown, held⟩ := finishEvent_fan_keeps (env := s.env) hi
        (K := fun x => (x.state = .queued ∨ x.state = .starting) ∧ x.runDown = .idle ∧ x.held = f.held)
        (putFan_fan?_self s.env f.afterRunDown (ev := .start s.plant) hf) ⟨.inl queued, rfl, rfl⟩
        (fun _ _ h => h) (fun _ _ _ h => ⟨.inr rfl, h.2⟩)
      rw [← hg, ← State.runEvent_plant] at hf'
      exact ⟨_, f', exec_runDownTimerRunsOut hh p, hf', fun h => absurd h (by decide), fun _ => state, runDown, held,
        marked, State.runEvent_wrote_entries hg, State.runEvent_portsMarked _ s, State.runEvent_outsidePlant _ s⟩

/-! ## A drive fault (R89, R90) -/

theorem exec_fbbFilterTimerRunsOut {s : State} (hh : s.held = false) (p : Point) :
    exec (.fbbFilterTimerRunsOut p) s = .next (s.runEvent (driveTimerOut p)) :=
  congrArg Host.Outcome.next (State.unlessHeld_of_not_held hh _)

/-- The fault begins to be indicated as the filter takes the level (R89). -/
theorem driveFaultIndicated_begins {c : PointCfg} {old new : Level}
    (h : (c.driveContact = .opensOnFault ∧ old = .low ∧ new = .high) ∨
      (c.driveContact = .closesOnFault ∧ old = .high ∧ new = .low)) :
    driveFaultIndicated c old = false ∧ driveFaultIndicated c new = true := by
  rcases h with ⟨contact, rfl, rfl⟩ | ⟨contact, rfl, rfl⟩ <;> simp [driveFaultIndicated, contact]

/-- The record that an indication leaves before its normal form (R89, R90). -/
def Fan.indicated (g : Filter) (f : Fan) : Fan :=
  if f.state.energised then ({ f with fbbFilt := g } : Fan).toFault .drive else { f with fbbFilt := g }

theorem driveFilterTakes_indicated {env : Env} {p : Point} {f : Fan} {g : Filter} {ev : Ev}
    (ho : driveFaultIndicated (env.store.point p) f.fbbFilt.filtered = false)
    (hn : driveFaultIndicated (env.store.point p) g.filtered = true) :
    driveFilterTakes env p f g ev = putFan env p (f.indicated g) ev := by
  unfold driveFilterTakes Fan.indicated
  cases he : f.state.energised <;> simp [ho, hn]

/-- Settles O32: an energised fan comes to FAULT, out of the queue's reach (`State.runEvent_wrote_self`); another one has
its flag set, so that the evaluation passes it over (`passedOver_of_driveAlarm`) and changes at most its wait
reason. (The model has a function of the statement's name.) -/
theorem driveFaultIsIndicated : Obligations.DriveFaultIndicated := by
  intro s p f hh ht hm hQ hf hr hc
  let g : Filter := { filtered := (s.plant.chan p).fbb, timer := .idle }
  obtain ⟨before, after⟩ := driveFaultIndicated_begins hc
  have F : s.plant.QueueFit s.store := ⟨(hQ hh).1, (hQ hh).2⟩
  have hg : driveTimerOut p s.env (.start s.plant) = putFan s.env p (f.indicated g) (.start s.plant) :=
    (driveTimerOut_eq (ev := .start s.plant) hf hr).trans (driveFilterTakes_indicated before after)
  have hi := putFan_ignoresReports (p := p) (f := f.indicated g) ht hm
  cases he : f.state.energised with
  | true =>
    have faulted : f.indicated g = ({ f with fbbFilt := g } : Fan).toFault .drive := if_pos he
    rw [faulted] at hg hi
    have self := State.runEvent_wrote_self hg hf hi F (by simp [Fan.toFault])
    refine ⟨_, _, exec_fbbFilterTimerRunsOut hh p, Plant.fan?_eq_some.mpr (congrArg Channel.unit self), rfl, ?_, rfl,
      fun _ => ⟨rfl, rfl, by rw [self]; rfl, rfl, rfl, rfl, rfl, rfl, State.runEvent_wrote_marked hg hf ?_⟩,
      fun h => absurd h (by decide), State.runEvent_wrote_entries hg, State.runEvent_portsMarked _ s,
      State.runEvent_outsidePlant _ s⟩
    · rw [Fan.norm_driveAlarm]
      exact congrArg (· && true) after
    · intro same
      rw [same] at he
      cases he
  | false =>
    have flagged : f.indicated g = { f with fbbFilt := g } := if_neg (by simp [he])
    rw [flagged] at hg hi
    let x : Fan := ({ f with fbbFilt := g } : Fan).norm (s.store.point p)
    have alarm : x.driveAlarm = true := by
      rw [Fan.norm_driveAlarm, show driveFaultIndicated (s.store.point p) g.filtered = true from after]
      simp [he]
    obtain ⟨f', hf', w, rfl⟩ := finishEvent_fan_keeps (env := s.env) hi
      (K := fun y => ∃ w, y = { x with wait := w })
      (putFan_fan?_self s.env _ (ev := .start s.plant) hf) ⟨x.wait, rfl⟩
      (fun y r ⟨w, hy⟩ => ⟨some r, by rw [hy]⟩)
      (fun pl y passed ⟨w, hy⟩ => absurd passed (passedOver_of_driveAlarm (by rw [hy]; exact alarm)))
    rw [← hg, ← State.runEvent_plant] at hf'
    exact ⟨_, _, exec_fbbFilterTimerRunsOut hh p, hf', rfl, alarm, rfl, fun h => absurd h (by decide),
      fun _ => ⟨rfl, rfl, rfl⟩, State.runEvent_wrote_entries hg, State.runEvent_portsMarked _ s,
      State.runEvent_outsidePlant _ s⟩

end Sys2Proof.Machine
end

section
/-! SUPPORT and the statement about the spacing timer: its event makes no report, so that it is the evaluation of the start
queue and nothing else (`finishEvent_of_no_report`). -/

namespace Sys2Proof.Machine

/-- A fan that was not STARTING returns no units: of the scheduler its change reaches the queue alone (R103, R109). -/
theorem putFan_sched_of_unstarted (env : Env) {p : Point} (f : Fan) {ev : Ev} {o : Fan}
    (ho : ev.plant.fan? p = some o) (hs : o.state ≠ .starting) :
    (putFan env p f ev).plant.sched =
      { ev.plant.sched with queue := queueAfter env.store p o.state f.state ev.plant.sched.queue } := by
  obtain ⟨ev', sched, written⟩ := putFan_sched env f ho
  obtain ⟨b, follows⟩ := schedulerFollows_eq env p o (f.norm (env.store.point p)) ev'
  rw [written, follows, Ev.evaluateIf_plant, if_neg fun h => hs h.1, queueFollows_sched, sched, Fan.norm_state]

section Evaluated
variable {env : Env} {ev : Ev}

/-- The joinings noted become joining reports: the last part of an event (R124, R129). -/
def Ev.reportJoinings (ev : Ev) : Ev :=
  ev.withPlant fun pl => { pl with joinReports := pl.joinReports ++ ev.joined.reverse.filterMap (joinReport ev) }

/-- An event that reports nothing and brings an evaluation is that evaluation, with the joining reports. -/
theorem finishEvent_of_no_report (hr : ev.reports = []) (hd : ev.evalDue = true) :
    finishEvent env ev = (evaluate env ev).reportJoinings := by
  have settled : settleAll env ev = ev := by
    simp only [settleAll, Config.settleRounds, settle, hr]
  simp only [finishEvent, settled, hd, if_true]
  rfl

theorem evaluate_of_empty_queue (hq : ev.plant.sched.queue = []) : evaluate env ev = ev := by
  rw [evaluate, hq]
  rfl

/-- The one fan in the queue starts when it is not passed over and fails no check (R105, R106, R108). -/
theorem evaluate_of_one_admitted {p : Point} {f : Fan} (hq : ev.plant.sched.queue = [p])
    (hf : ev.plant.fan? p = some f) (passed : passedOver env ev.plant p f = none)
    (admitted : candidateWaits env ev.plant p = none) : evaluate env ev = startFan env p f ev := by
  simp [evaluate, hq, evaluationWalk, hf, passed, admitted]

theorem passedOver_eq_none {pl : Plant} {p : Point} {f : Fan}
    (hp : f.underOverride = true ∨ pathOpen env.store pl p = true) (ha : f.driveAlarm = false) :
    passedOver env pl p f = none := by
  rcases hp with hp | hp <;> simp [passedOver, hp, ha]

theorem candidateWaits_eq_none {pl : Plant} {p : Point} (hs : pl.supply.state = .good)
    (ht : pl.sched.spacing.isRunning = false)
    (hu : pl.sched.inUse + (env.store.point p).nUNIT ≤ pl.sched.limit) : candidateWaits env pl p = none := by
  simp [candidateWaits, allowanceAdmits, hs, ht, hu]

end Evaluated

theorem exec_spacingTimerRunsOut {s : State} (hh : s.held = false) :
    exec .spacingTimerRunsOut s = .next (s.runEvent spacingOut) :=
  congrArg Host.Outcome.next (State.unlessHeld_of_not_held hh _)

/-- The plant as the spacing timer has run out. -/
def Plant.spaced (pl : Plant) : Plant := { pl with sched := { pl.sched with spacing := .idle } }

theorem spacingOut_eq {env : Env} {pl : Plant} (hr : pl.sched.spacing.isRunning = true) :
    spacingOut env (.start pl) = (Ev.start pl.spaced).evaluateIf true := if_pos hr

/-- The end of the spacing timer's event, by what the evaluation makes of the queue. -/
theorem finishEvent_spacingOut {s : State} (hr : s.plant.sched.spacing.isRunning = true) {ev : Ev}
    (he : evaluate s.env ((Ev.start s.plant.spaced).evaluateIf true) = ev) :
    finishEvent s.env (spacingOut s.env (.start s.plant)) = ev.reportJoinings := by
  rw [spacingOut_eq hr, finishEvent_of_no_report rfl rfl, he]

/-- Settles O37: the evaluation of an empty queue changes nothing, and of a queue of one fan that passes every check it
is the start of that fan (`evaluate_of_one_admitted`). -/
theorem spacingTimerStartsFan : Obligations.SpacingTimerStartsFan := by
  intro s hh hr
  let ev := (Ev.start s.plant.spaced).evaluateIf true
  refine ⟨fun hq => ?_, ?_⟩
  · rw [exec_spacingTimerRunsOut hh]
    refine congrArg Host.Outcome.next ?_
    have ended := finishEvent_spacingOut hr (evaluate_of_empty_queue (ev := ev) hq)
    rw [State.runEvent, ended]
    simp [ev, Plant.spaced, Ev.reportJoinings]
  · intro p f hq hf hs ha hp hg hu c speed
    have started : evaluate s.env ev = startFan s.env p f ev :=
      evaluate_of_one_admitted hq hf (passedOver_eq_none hp ha) (candidateWaits_eq_none hg rfl hu)
    have ended := finishEvent_spacingOut hr started
    let t := s.runEvent spacingOut
    have chan (q : Point) : t.plant.chan q = (startFan s.env p f ev).plant.chan q := by
      rw [State.runEvent_plant, ended]
      rfl
    have sched : t.plant.sched =
        { s.plant.sched with
          queue := []
          inUse := s.plant.sched.inUse + c.nUNIT
          spacing := .load s.store.device.nSPC } := by
      have queue : queueAfter s.store p f.state (f.started c).state s.plant.sched.queue = [] := by
        simp [queueAfter, hs, hq, Fan.started]
      rw [State.runEvent_plant, ended, ← queue]
      show (startFan s.env p f ev).plant.sched = _
      rw [startFan, Ev.withSched_sched, putFan_sched_of_unstarted s.env _ hf (by rw [hs]; decide)]
      rfl
    have written : t.plant.chan p =
        { s.plant.chan p with unit := .fan ((f.started c).norm c), cmd := (f.started c).state.energised } :=
      (chan p).trans ((putFan_chan (ev := ev) (f.started c) hf (.inl rfl)).trans (if_pos rfl))
    have marked : t.PointMarked p := by
      refine State.runEvent_pointMarked _ s p ?_
      rw [ended]
      exact putFan_marks (ev := ev) hf (by simp [hs, Fan.started])
    have mode : t.plant.mode = s.plant.mode := by
      rw [State.runEvent_plant, ended]
      exact (startFan_frame sequencersOnly_frame s.env p f ev).1
    exact ⟨t, _, exec_spacingTimerRunsOut hh, Plant.fan?_eq_some.mpr (congrArg Channel.unit written), rfl, rfl, rfl,
      by rw [written]; rfl, rfl, rfl, rfl, rfl, rfl, rfl, rfl, by rw [sched], by rw [sched], by rw [sched],
      by rw [sched], marked, fun q hne => (chan q).trans (startFan_chan_ne (ev := ev) hne hf), mode,
      State.runEvent_portsMarked _ s, State.runEvent_outsidePlant _ s⟩

end Sys2Proof.Machine
end

section
/-! SUPPORT and the statement about the loss of the supply. The supply trip takes every energised fan into its run-down
(`supplyTrip_fan?`), and with the supply lost no report and no evaluation energises one again: that is the law
`Plant.TrippedOff`, kept to the end of the event in every mode, a running test among them. -/

namespace Sys2Proof.Machine

/-! ## The spacing timer through a fan's change -/

theorem testPendingLimit_spacing (ev : Ev) : ev.testPendingLimit.plant.sched.spacing = ev.plant.sched.spacing := by
  unfold Ev.testPendingLimit
  split
  · rfl
  · split <;> rfl

theorem schedulerFollows_spacing (env : Env) (p : Point) (o f : Fan) (ev : Ev) :
    (schedulerFollows env p o f ev).plant.sched.spacing = ev.plant.sched.spacing := by
  obtain ⟨b, e⟩ := schedulerFollows_eq env p o f ev
  have queue : (queueFollows env p o f ev).plant.sched.spacing = ev.plant.sched.spacing := by rw [queueFollows_sched]
  rw [e, Ev.evaluateIf_plant]
  split
  · exact (testPendingLimit_spacing _).trans queue
  · exact queue

theorem putFan_spacing {env : Env} {p : Point} (f : Fan) {ev : Ev} {o : Fan} (ho : ev.plant.fan? p = some o) :
    (putFan env p f ev).plant.sched.spacing = ev.plant.sched.spacing := by
  obtain ⟨ev', sched, written⟩ := putFan_sched env f ho
  rw [written, schedulerFollows_spacing, sched]

theorem enterRunDown_spacing {env : Env} {p : Point} {ev : Ev} {o : Fan} (ho : ev.plant.fan? p = some o) :
    (enterRunDown env p ev).plant.sched.spacing = ev.plant.sched.spacing := by
  have entered := putFan_spacing (env := env) (o.toRunDown (env.store.point p)) ho
  rw [enterRunDown_eq env ho]
  split
  · rw [putFan_spacing _ (putFan_fan?_self env _ ho), entered]
  · exact entered

/-! ## The supply trip (R88, R116) -/

/-- A fan after the supply trip: whatever its source, it runs down if it is energised. -/
def Fan.supplyTripped (c : PointCfg) (f : Fan) : Fan := if f.state.energised then f.ranDown c else f

theorem Fan.supplyTripped_rests (c : PointCfg) (f : Fan) : (f.supplyTripped c).state.energised = false := by
  unfold Fan.supplyTripped
  split
  · exact f.ranDown_rests c
  · rename_i h
    exact Bool.eq_false_iff.mpr h

/-- A fan that has run down is not tripped again. -/
theorem Fan.supplyTripped_supplyTripped (c : PointCfg) (f : Fan) :
    (f.supplyTripped c).supplyTripped c = f.supplyTripped c := by
  rw [Fan.supplyTripped, f.supplyTripped_rests c]
  rfl

section Trips
variable {env : Env}

theorem supplyTripOne_fan? (ev : Ev) (p q : Point) :
    (supplyTripOne env ev p).plant.fan? q =
      if q = p then (ev.plant.fan? q).map (Fan.supplyTripped (env.store.point q)) else ev.plant.fan? q := by
  unfold supplyTripOne
  split
  · rename_i hn
    split
    · rename_i e; rw [e, hn]; rfl
    · rfl
  · rename_i f hf
    by_cases e : q = p
    · subst e
      rw [if_pos rfl, hf, Option.map_some, Fan.supplyTripped]
      split
      · rw [enterRunDown_fan? env hf, if_pos rfl]
      · exact hf
    · rw [if_neg e]
      split
      · rw [enterRunDown_fan? env hf, if_neg e]
      · rfl

theorem supplyTripFans_fan? (l : List Point) (ev : Ev) (q : Point) :
    (l.foldl (supplyTripOne env) ev).plant.fan? q =
      if q ∈ l then (ev.plant.fan? q).map (Fan.supplyTripped (env.store.point q)) else ev.plant.fan? q := by
  induction l generalizing ev with
  | nil => rfl
  | cons p ps ih =>
    rw [List.foldl_cons, ih, supplyTripOne_fan?]
    by_cases e : q = p
    · have twice : (Fan.supplyTripped (env.store.point q)) ∘ (Fan.supplyTripped (env.store.point q)) =
          Fan.supplyTripped (env.store.point q) := funext fun f => f.supplyTripped_supplyTripped _
      rw [if_pos e, if_pos (show q ∈ p :: ps by simp [e]), Option.map_map, twice, ite_self]
    · simp [e]

theorem supplyTripOne_onward (ev : Ev) (p : Point) : ev.Onward (supplyTripOne env ev p) := by
  unfold supplyTripOne
  split
  · exact .refl _
  · split
    · exact enterRunDown_onward ..
    · exact .refl _

theorem supplyTripOne_marks {ev : Ev} {p : Point} {f : Fan} (hf : ev.plant.fan? p = some f)
    (he : f.state.energised = true) : p ∈ (supplyTripOne env ev p).marks := by
  simp only [supplyTripOne, hf, he, if_true]
  exact enterRunDown_marks hf fun hs => by rw [hs] at he; cases he

/-- The trip marks every fan that it reaches. -/
theorem supplyTripFans_marks {l : List Point} {ev : Ev} {p : Point} {f : Fan} (hp : p ∈ l)
    (hf : ev.plant.fan? p = some f) (he : f.state.energised = true) :
    p ∈ (l.foldl (supplyTripOne env) ev).marks := by
  induction l generalizing ev with
  | nil => cases hp
  | cons q qs ih =>
    rw [List.foldl_cons]
    by_cases e : p = q
    · subst e
      exact (onward_foldl _ supplyTripOne_onward qs _).1 (supplyTripOne_marks hf he)
    · exact ih ((List.mem_cons.mp hp).resolve_left e) (by rw [supplyTripOne_fan?, if_neg e, hf])

theorem supplyTripOne_spacing (ev : Ev) (p : Point) :
    (supplyTripOne env ev p).plant.sched.spacing = ev.plant.sched.spacing := by
  unfold supplyTripOne
  split
  · rfl
  · rename_i f hf
    split
    · exact enterRunDown_spacing hf
    · rfl

theorem testPendingLimit_inUse (ev : Ev) : ev.testPendingLimit.plant.sched.inUse = ev.plant.sched.inUse := by
  unfold Ev.testPendingLimit
  split
  · rfl
  · split <;> rfl

theorem testPendingLimit_fan? (ev : Ev) (q : Point) : ev.testPendingLimit.plant.fan? q = ev.plant.fan? q := by
  rw [Plant.fan?, testPendingLimit_chan, Plant.fan?]

/-- Every energised fan has run down, and every other one is as it was. -/
theorem supplyTrip_fan? (ev : Ev) (q : Point) :
    (supplyTrip env ev).plant.fan? q = (ev.plant.fan? q).map (Fan.supplyTripped (env.store.point q)) := by
  have trips := (supplyTripFans_fan? (env := env) allPoints ev q).trans (if_pos (by simp [allPoints]))
  unfold supplyTrip
  generalize allPoints.foldl (supplyTripOne env) ev = x at trips ⊢
  exact (testPendingLimit_fan? _ q).trans trips

theorem supplyTrip_sched (ev : Ev) :
    (supplyTrip env ev).plant.sched.inUse = 0 ∧
      (supplyTrip env ev).plant.sched.spacing = ev.plant.sched.spacing := by
  have trips : (allPoints.foldl (supplyTripOne env) ev).plant.sched.spacing = ev.plant.sched.spacing :=
    foldl_keeps (P := fun pl => pl.sched.spacing = ev.plant.sched.spacing) (g := supplyTripOne env)
      (fun x p hx => (supplyTripOne_spacing x p).trans hx) allPoints (ev := ev) rfl
  unfold supplyTrip
  generalize allPoints.foldl (supplyTripOne env) ev = x at trips ⊢
  exact ⟨testPendingLimit_inUse _, (testPendingLimit_spacing _).trans trips⟩

theorem supplyTrip_marks {ev : Ev} {p : Point} {f : Fan} (hf : ev.plant.fan? p = some f)
    (he : f.state.energised = true) : p ∈ (supplyTrip env ev).marks := by
  have trips := supplyTripFans_marks (env := env) (l := allPoints) (by simp [allPoints]) hf he
  unfold supplyTrip
  generalize allPoints.foldl (supplyTripOne env) ev = x at trips ⊢
  exact (testPendingLimit_onward _).1 trips

end Trips

/-! ## With the supply lost -/

/-- The supply is not GOOD, no fan is energised, no unit is in use, and the spacing timer is `x`. -/
structure Plant.TrippedOff (x : Timer) (pl : Plant) : Prop where
  supply : pl.supply.state ≠ .good
  rests : ∀ q f, pl.fan? q = some f → f.state.energised = false
  inUse : pl.sched.inUse = 0
  spacing : pl.sched.spacing = x

theorem FanState.ne_starting_of_rests {x : FanState} (h : x.energised = false) : x ≠ .starting := by
  rintro rfl
  cases h

/-- What a demand handed to a fan that is not energised writes: a record that is not energised either (R76). -/
theorem handFan_of_rests {env : Env} {p : Point} {w : FanWant} {src : Source} {ev : Ev} {o : Fan}
    (ho : ev.plant.fan? p = some o) (hr : o.state.energised = false) :
    ∃ f : Fan, f.state.energised = false ∧ (handFan env p w src ev).plant = (putFan env p f ev).plant := by
  cases hs : o.state with
  | starting | running | lost => rw [hs] at hr; cases hr
  | runDown => exact ⟨o.asked w src, hr, by rw [handFan_records ho (.inr (.inl hs))]⟩
  | fault => exact ⟨o.asked w src, hr, by rw [handFan_records ho (.inr (.inr hs))]⟩
  | idle =>
    cases w with
    | stop => exact ⟨o.asked .stop src, hr, by rw [handFan_records ho (.inl ⟨hs, rfl⟩)]⟩
    | run v => exact ⟨_, rfl, by rw [handFan_queues ho hs]⟩
  | queued =>
    cases w with
    | stop => exact ⟨_, rfl, by rw [handFan_leaves ho hs]⟩
    | run v => exact ⟨o.asked (.run v) src, hr, by rw [handFan_requests ho hs, Ev.evaluateIf_plant]⟩

section TrippedOff
variable {env : Env} {x : Timer} {ev : Ev} (h : ev.plant.TrippedOff x)
include h

theorem putFan_trippedOff {p : Point} {f : Fan} (hf : f.state.energised = false) :
    (putFan env p f ev).plant.TrippedOff x := by
  cases ho : ev.plant.fan? p with
  | none => simpa [putFan, ho] using h
  | some o =>
    have sched := putFan_sched_of_unstarted env f ho (FanState.ne_starting_of_rests (h.rests p o ho))
    refine ⟨?_, fun q g hg => ?_, ?_, ?_⟩
    · rw [putFan_frame supply_frame.toSeqFrame env p f ev]; exact h.supply
    · rw [putFan_fan?] at hg
      split at hg
      · obtain rfl := Option.some.inj hg
        exact hf
      · exact h.rests q g hg
    · rw [sched]; exact h.inUse
    · rw [sched]; exact h.spacing

theorem putDamper_trippedOff (p : Point) (d : Damper) : (putDamper env p d ev).plant.TrippedOff x := by
  refine ⟨?_, fun q f hf => h.rests q f (by rwa [putDamper_fan?] at hf), ?_, ?_⟩
  · rw [putDamper_frame supply_frame.toSeqFrame env p d ev]; exact h.supply
  · rw [putDamper_sched]; exact h.inUse
  · rw [putDamper_sched]; exact h.spacing

/-- There is no fan left for the interlock to trip. -/
theorem interlockTrip_trippedOff (q : Point) : (interlockTrip env ev q).plant.TrippedOff x := by
  unfold interlockTrip
  split
  · exact h
  · rename_i f hf
    rw [h.rests q f hf, Bool.false_and]
    exact h

theorem handDemand_trippedOff (p : Point) (d : Demand) : (handDemand env p d ev).plant.TrippedOff x := by
  unfold handDemand
  split
  · exact h
  · unfold handDamper
    split
    · exact h
    · rename_i o ho
      rw [moveDamper_eq ho]
      have written := putDamper_trippedOff (env := env) h p
        (o.takeDemand (env.store.point p) (anyPathFanTurning env.store ev.plant p) d.action.damperEnd d.source)
      split
      · exact foldl_keeps (P := Plant.TrippedOff x) (fun _ q hq => interlockTrip_trippedOff hq q) _ written
      · exact written
  · rename_i o hu
    have ho := Plant.fan?_eq_some.mpr hu
    obtain ⟨f, hf, written⟩ := handFan_of_rests (env := env) (w := d.action.fanWant) (src := d.source) ho
      (h.rests p o ho)
    rw [written]
    exact putFan_trippedOff h hf

theorem setWait_trippedOff {p : Point} {f : Fan} {r : WaitReason} (hf : ev.plant.fan? p = some f) :
    (setWait p f r ev).plant.TrippedOff x := by
  refine ⟨h.supply, fun q g hg => ?_, h.inUse, h.spacing⟩
  rw [setWait, Ev.setChan_plant, Plant.fan?_setChan] at hg
  split at hg
  · obtain rfl := Option.some.inj hg
    exact h.rests p f hf
  · exact h.rests q g hg

/-- The evaluation starts no fan: every candidate waits SUPPLY (R106). -/
theorem evaluate_trippedOff : (evaluate env ev).plant.TrippedOff x :=
  evaluationWalk_keeps_checked (P := Plant.TrippedOff x) (fun _ _ _ _ _ hf hx => setWait_trippedOff hx hf)
    (fun _ _ _ _ _ _ admitted hx => by
      rw [candidateWaits_of_no_supply hx.supply] at admitted
      cases admitted) false h

end TrippedOff

theorem Plant.TrippedOff.unitsKept {x : Timer} {a b : Plant} (h : a.TrippedOff x) (k : a.UnitsKept b) :
    b.TrippedOff x := by
  have fan := k.fan?
  obtain ⟨-, sched, supply⟩ := k
  exact ⟨by rw [supply]; exact h.supply, fun q f hf => h.rests q f (by rwa [fan] at hf),
    by rw [sched]; exact h.inUse, by rw [sched]; exact h.spacing⟩

theorem trippedOff_handLaw (env : Env) (x : Timer) : HandLaw env (Plant.TrippedOff x) where
  kept k h := h.unitsKept k
  hand p d _ h := handDemand_trippedOff h p d

/-- Whatever the reports of the event bring, in every mode. -/
theorem finishEvent_trippedOff {env : Env} {x : Timer} {ev : Ev} (h : ev.plant.TrippedOff x) :
    (finishEvent env ev).plant.TrippedOff x :=
  finishEvent_law (trippedOff_handLaw env x) h fun _ k => evaluate_trippedOff k

/-- The supply trip brings it about. -/
theorem supplyTrip_trippedOff {env : Env} {ev : Ev} (hs : ev.plant.supply.state ≠ .good) :
    (supplyTrip env ev).plant.TrippedOff ev.plant.sched.spacing := by
  obtain ⟨inUse, spacing⟩ := supplyTrip_sched (env := env) ev
  refine ⟨?_, fun q f hf => ?_, inUse, spacing⟩
  · rw [supplyTrip_frame supply_frame.toSeqFrame env ev]
    exact hs
  · rw [supplyTrip_fan?] at hf
    obtain ⟨o, -, rfl⟩ := Option.map_eq_some_iff.mp hf
    exact o.supplyTripped_rests _

/-- With the reports ignored, of any fan the end of the event changes at most the wait reason, since none starts. -/
theorem finishEvent_fan_of_no_supply {env : Env} {ev : Ev} (hi : ev.plant.IgnoresReports)
    (hs : ev.plant.supply.state ≠ .good) {q : Point} {o : Fan} (ho : ev.plant.fan? q = some o) :
    ∃ w, (finishEvent env ev).plant.fan? q = some { o with wait := w } := by
  have kept := finishEvent_keeps_checked (env := env) (P := fun pl => pl.supply.state ≠ .good ∧
    ∃ w, pl.fan? q = some { o with wait := w }) hi (fun p _ x f r hf ⟨hx, w, hq⟩ => ⟨hx, ?_⟩)
    (fun _ _ _ _ _ _ admitted ⟨hx, _⟩ => by rw [candidateWaits_of_no_supply hx] at admitted; cases admitted)
    (fun _ _ hx => hx) ⟨hs, o.wait, ho⟩
  · exact kept.2
  · by_cases e : q = p
    · subst e
      obtain rfl := Option.some.inj (hq.symm.trans hf)
      refine ⟨some r, ?_⟩
      rw [setWait, Ev.setChan_plant, Plant.fan?_setChan, if_pos rfl]; rfl
    · exact ⟨w, (setWait_fan?_ne f r x e).trans hq⟩

/-- An event that the supply trip has taken on from the plant `pl`, in which the supply is lost. -/
structure Ev.SupplyTripped (env : Env) (pl : Plant) (ev : Ev) : Prop where
  off : ev.plant.TrippedOff pl.sched.spacing
  supply : ev.plant.supply = pl.supply
  entries : pl.EntriesKept ev.plant
  mode : ev.plant.mode = pl.mode
  test : ev.plant.test = pl.test
  fans : ∀ q, ev.plant.fan? q = (pl.fan? q).map (Fan.supplyTripped (env.store.point q))
  marks : ∀ q f, pl.fan? q = some f → f.state.energised = true → q ∈ ev.marks

theorem supplyTrip_supplyTripped (env : Env) {pl : Plant} (hs : pl.supply.state ≠ .good) :
    (supplyTrip env (.start pl)).SupplyTripped env pl := by
  obtain ⟨mode, test, supply, -⟩ := supplyTrip_frame sequencersOnly_frame env (.start pl)
  exact ⟨supplyTrip_trippedOff (ev := .start pl) hs, supply, supplyTrip_frame entriesKept_frame.toSeqFrame env _, mode,
    test, supplyTrip_fan? _, fun _ _ hf he => supplyTrip_marks (ev := .start pl) hf he⟩

/-- An energised fan with a time to run down stands in RUNDOWN at the end of the event, under its held demand (R84). -/
theorem Ev.SupplyTripped.runsDown {env : Env} {pl : Plant} {ev : Ev} (h : ev.SupplyTripped env pl)
    (ht : pl.test.state ≠ .running) (hm : pl.mode ≠ .restore) {p : Point} {f : Fan} (hf : pl.fan? p = some f)
    (he : f.state.energised = true) (hrd : 0 < (env.store.point p).tRD) :
    ∃ f', (finishEvent env (ev.evaluateIf true)).plant.fan? p = some f' ∧ f'.state = .runDown ∧
      f'.runDown = .running (8 * (env.store.point p).tRD) 0 ∧ f'.held = f.held := by
  have down : ev.plant.fan? p = some (f.ranDown (env.store.point p)) := by
    rw [h.fans, hf, Option.map_some, Fan.supplyTripped, if_pos he]
  have ignored : ev.plant.IgnoresReports := ⟨by rw [h.test]; exact ht, fun k => hm (h.mode.symm.trans k.1)⟩
  obtain ⟨w, hw⟩ := finishEvent_fan_of_no_supply (env := env) (ev := ev.evaluateIf true) ignored h.off.supply down
  obtain ⟨state, timer, held⟩ := Fan.ranDown_of_time hrd f
  exact ⟨_, hw, state, timer, held⟩

/-! ## The event (R115 to R117) -/

theorem exec_supfailFilterTimerRunsOut {s : State} (hh : s.held = false) :
    exec .supfailFilterTimerRunsOut s = .next (s.runEvent supfailTimerOut) :=
  congrArg Host.Outcome.next (State.unlessHeld_of_not_held hh _)

/-- The plant with its supply FAILED, SUPFAIL's filter settled low, and the settle timer as given. -/
def Plant.supplyFailed (settle : Timer) (pl : Plant) : Plant :=
  { pl with
    supply :=
      { pl.supply with filter := { filtered := .low, timer := .idle }, state := .failed, settle := settle } }

section Lost
variable {env : Env} {pl : Plant} (hr : pl.supply.filter.timer.isRunning = true)
  (hf : pl.supply.filter.filtered = .high) (hl : pl.supply.raw = .low)
include hr hf hl

/-- The filter takes the low level, and SUPFAIL is active (R114). -/
theorem supfailTimerOut_active : supfailTimerOut env (.start pl) =
    supplyActivity env true
      ((Ev.start pl).withSupply fun su => { su with filter := { filtered := .low, timer := .idle } }) := by
  unfold supfailTimerOut supplyFilterTakes
  simp only [Ev.start_plant, hr, hf, hl, if_true, Filter.expire_eq]
  rfl

theorem supfailTimerOut_of_good (hs : pl.supply.state = .good) : supfailTimerOut env (.start pl) =
    (supplyTrip env (.start (pl.supplyFailed pl.supply.settle))).evaluateIf true := by
  rw [supfailTimerOut_active hr hf hl]
  unfold supplyActivity
  simp only [Ev.withSupply, Ev.withPlant_plant, Ev.start_plant, hs]
  rfl

theorem supfailTimerOut_of_settling (hs : pl.supply.state = .settling) : supfailTimerOut env (.start pl) =
    (Ev.start (pl.supplyFailed .idle)).evaluateIf true := by
  rw [supfailTimerOut_active hr hf hl]
  unfold supplyActivity
  simp only [Ev.withSupply, Ev.withPlant_plant, Ev.start_plant, hs]
  rfl

end Lost

theorem Plant.entriesKept_supplyFailed (settle : Timer) (pl : Plant) : pl.EntriesKept (pl.supplyFailed settle) :=
  fun _ => ⟨rfl, rfl, rfl, rfl, rfl⟩

/-- The supply monitor at the end of an event whose own part leaves it so. -/
theorem State.runEvent_supply {g : Env → Ev → Ev} {s : State} {su : Supply}
    (h : (g s.env (.start s.plant)).plant.supply = su) : (s.runEvent g).plant.supply = su :=
  (finishEvent_frame supply_frame s.env _).trans h

/-- Settles O38: the supply trip leaves no fan energised (`supplyTrip_trippedOff`), which holds to the end of the event
(`finishEvent_trippedOff`); with no test running and outside RESTORE a tripped fan goes on running down
(`Ev.SupplyTripped.runsDown`). -/
theorem supplyLossTrips : Obligations.SupplyLossTrips := by
  intro s hh hr hf hl hs
  refine ⟨_, exec_supfailFilterTimerRunsOut hh, ?_⟩
  rcases hs with hs | hs
  · let failed := s.plant.supplyFailed s.plant.supply.settle
    have hg := supfailTimerOut_of_good (env := s.env) hr hf hl hs
    have tripped := supplyTrip_supplyTripped s.env (pl := failed) (by simp [failed, Plant.supplyFailed])
    generalize supplyTrip s.env (.start failed) = ev at hg tripped
    have supply : (s.runEvent supfailTimerOut).plant.supply = failed.supply :=
      State.runEvent_supply (by rw [hg]; exact tripped.supply)
    have off : (s.runEvent supfailTimerOut).plant.TrippedOff s.plant.sched.spacing := by
      rw [State.runEvent_plant, hg]
      exact finishEvent_trippedOff (ev := ev.evaluateIf true) tripped.off
    have entries : s.plant.EntriesKept (ev.evaluateIf true).plant :=
      entriesKept_frame.trans (s.plant.entriesKept_supplyFailed _) tripped.entries
    refine ⟨by rw [supply]; rfl, by rw [supply]; rfl, by rw [supply]; exact hl,
      fun h => absurd (hs.symm.trans h) (by decide),
      fun _ => ⟨off.inUse, off.spacing, fun p f hp he hrd ht hm => ?_⟩, fun _ => off.rests,
      runEvent_frame entriesKept_frame _ s (by rw [hg]; exact entries), State.runEvent_portsMarked _ s,
      State.runEvent_outsidePlant _ s⟩
    obtain ⟨f', hf', state, timer, held⟩ := tripped.runsDown ht hm hp he hrd
    rw [← hg, ← State.runEvent_plant] at hf'
    exact ⟨f', hf', state, timer, held, State.runEvent_pointMarked _ s p
      (finishEvent_marks _ _ (by rw [hg]; exact tripped.marks p f hp he))⟩
  · have hg : supfailTimerOut s.env (.start s.plant) = (Ev.start (s.plant.supplyFailed .idle)).evaluateIf true :=
      supfailTimerOut_of_settling hr hf hl hs
    have supply : (s.runEvent supfailTimerOut).plant.supply = (s.plant.supplyFailed .idle).supply :=
      State.runEvent_supply (by rw [hg]; rfl)
    have good (h : s.plant.supply.state = .good) : False := by rw [hs] at h; cases h
    exact ⟨by rw [supply]; rfl, by rw [supply]; rfl, by rw [supply]; exact hl, fun _ => by rw [supply]; rfl,
      fun h => (good h).elim, fun h => (good h).elim,
      runEvent_frame entriesKept_frame _ s (by rw [hg]; exact s.plant.entriesKept_supplyFailed _),
      State.runEvent_portsMarked _ s, State.runEvent_outsidePlant _ s⟩

end Sys2Proof.Machine
end

section
/-! SUPPORT. The test unit through an event: what a resolution leaves of it (`resolvePoint_testDemand`), what the record
gains (`TestRecord.Adds`), and what every step of a test and every report keep of a point whose step is over
(`TestLaw`, `Plant.StepOver`). -/

namespace Sys2Proof.Machine

/-! ## What a resolution leaves of the test unit -/

section Resolved
variable (env : Env) (b : Bool) (ev : Ev)

/-- The resolver and the sequencers set no test demand. -/
theorem resolvePoint_testDemand (p q : Point) :
    ((resolvePoint env b ev p).plant.chan q).testDemand = (ev.plant.chan q).testDemand := by
  by_cases hk : env.store.kind p = .unused
  · rw [resolvePoint_unused hk, Ev.setChan_plant, Plant.chan_setChan]
    split
    · rename_i e; subst e; rfl
    · rfl
  · refine (congrArg Channel.testDemand (resolvePoint_resolverSide hk b ev q)).trans ?_
    split
    · rename_i e; subst e; rw [Channel.resolvedAt_eq]; rfl
    · rfl

theorem resolveAll_testDemand (q : Point) :
    ((resolveAll env b ev).plant.chan q).testDemand = (ev.plant.chan q).testDemand := by
  refine (congrArg Channel.testDemand (resolveAll_resolverSide env b ev q)).trans ?_
  split
  · rfl
  · rw [Channel.resolvedAt_eq]; rfl

end Resolved

/-- The test record and every point's test demand are as they were. -/
structure Plant.SameTest (a b : Plant) : Prop where
  record : b.test = a.test
  demands : ∀ q, (b.chan q).testDemand = (a.chan q).testDemand

theorem Plant.SameTest.refl (a : Plant) : a.SameTest a := ⟨rfl, fun _ => rfl⟩

theorem Plant.SameTest.trans {a b c : Plant} (h : a.SameTest b) (k : b.SameTest c) : a.SameTest c :=
  ⟨k.record.trans h.record, fun q => (k.demands q).trans (h.demands q)⟩

theorem Plant.SequencersOnly.sameTest {a b : Plant} (h : a.SequencersOnly b) : a.SameTest b := by
  obtain ⟨-, test, -, -, -, chans⟩ := h
  exact ⟨test, fun q => by rw [chans q]⟩

/-- A change of mode and the resolution of every point leave the test unit to the caller. -/
theorem setMode_resolveAll_sameTest (env : Env) (m : Mode) (ev : Ev) :
    ev.plant.SameTest (resolveAll env false (ev.setMode m)).plant :=
  ⟨resolveAll_test .., resolveAll_testDemand env false (ev.setMode m)⟩

section SetTestDemand
variable (env : Env) (p : Point) (a : Option Action) (ev : Ev)

theorem setTestDemand_testDemand (q : Point) :
    ((setTestDemand env p a ev).plant.chan q).testDemand = if q = p then a else (ev.plant.chan q).testDemand := by
  rw [setTestDemand, resolvePoint_testDemand, Ev.setChan_plant, Plant.chan_setChan]
  split <;> rfl

theorem setTestDemand_mode : (setTestDemand env p a ev).plant.mode = ev.plant.mode := resolvePoint_mode ..

/-- The entries of a point under test stand. -/
theorem setTestDemand_entries (q : Point) :
    ((setTestDemand env p a ev).plant.chan q).override = (ev.plant.chan q).override ∧
      ((setTestDemand env p a ev).plant.chan q).normal = (ev.plant.chan q).normal := by
  obtain ⟨-, -, override, normal, -⟩ := setTestDemand_frame entriesKept_frame env p a ev q
  exact ⟨override, normal⟩

end SetTestDemand

/-- In TEST a point under no override holds the test demand that is set for it (R36). -/
theorem setTestDemand_resolved {env : Env} {p : Point} {ev : Ev} (a : Action) (hm : ev.plant.mode = .test)
    (hk : env.store.kind p ≠ .unused) (ho : (ev.plant.chan p).override = .auto) :
    ((setTestDemand env p (some a) ev).plant.chan p).resolved =
      some { action := a.inForm (env.store.point p), source := .test, fireZone := none } := by
  have demand := setTestDemand_testDemand env p (some a) ev p
  rw [if_pos rfl] at demand
  have holds : (setTestDemand env p (some a) ev).plant.HoldsDemand env p := resolvePoint_holdsDemand hk false _
  rw [Plant.HoldsDemand, setTestDemand_mode, hm,
    resolution_of_auto _ ((setTestDemand_entries env p (some a) ev p).1.trans ho)] at holds
  rw [holds, modeDemand, demand]

/-! ## What the record gains (R121) -/

/-- The entries `es` are added to the result list, and those that FAIL to the failed count. -/
structure TestRecord.Adds (es : List TestEntry) (a b : TestRecord) : Prop where
  results : b.results = a.results ++ es
  failed : b.failed = a.failed + (es.filter fun e => e.outcome.failed).length

theorem TestRecord.Adds.trans {es fs : List TestEntry} {a b c : TestRecord} (h : a.Adds es b) (k : b.Adds fs c) :
    a.Adds (es ++ fs) c :=
  ⟨by rw [k.results, h.results, List.append_assoc],
    by rw [k.failed, h.failed, List.filter_append, List.length_append, Nat.add_assoc]⟩

theorem TestRecord.Adds.of_eq {a b : TestRecord} (hr : b.results = a.results) (hf : b.failed = a.failed) :
    a.Adds [] b := ⟨by rw [hr, List.append_nil], hf⟩

theorem TestRecord.adds_add (p : Point) (o : TestOutcome) (t : TestRecord) :
    t.Adds [{ point := p, outcome := o }] (t.add p o) :=
  ⟨rfl, by cases h : o.failed <;> simp [TestRecord.add, h]⟩

/-- The last step's end leaves the list as it is. -/
theorem testDone_test (env : Env) (ev : Ev) :
    (testDone env ev).plant.test = { ev.plant.test.noStep with state := .done } := by
  rw [testDone, resolveAll_test]
  rfl

/-! ## What a point's step begins with (R123) -/

section Begins
variable {env : Env} {n : Nat} {p : Point} {ev : Ev}

/-- The event with `p` as the point under test. -/
def Ev.atPoint (p : Point) (ev : Ev) : Ev := ev.withTest fun t => { t with current := some p }

theorem beginSteps_passes (h : stepBegin (env.store.point p) (ev.plant.chan p) = .skip none) :
    beginSteps env (n + 1) p.val ev = beginSteps env n (p.val + 1) (ev.atPoint p) := by
  simp only [beginSteps, p.isLt, dif_pos, Ev.withTest_chan, Fin.eta, h]
  rfl

theorem beginSteps_skips {o : TestOutcome}
    (h : stepBegin (env.store.point p) (ev.plant.chan p) = .skip (some o)) :
    beginSteps env (n + 1) p.val ev = beginSteps env n (p.val + 1) ((ev.atPoint p).withTest (·.add p o)) := by
  simp only [beginSteps, p.isLt, dif_pos, Ev.withTest_chan, Fin.eta, h]
  rfl

theorem beginSteps_damper {home : Action}
    (h : stepBegin (env.store.point p) (ev.plant.chan p) = .damper home) :
    beginSteps env (n + 1) p.val ev =
      setTestDemand env p (some home.opposite)
        ((ev.atPoint p).withTest fun t => { t with step := some .damperOut, home := some home }) := by
  simp only [beginSteps, p.isLt, dif_pos, Ev.withTest_chan, Fin.eta, h]
  rfl

theorem beginSteps_fan {speed : Nat}
    (h : stepBegin (env.store.point p) (ev.plant.chan p) = .fan speed) :
    beginSteps env (n + 1) p.val ev =
      setTestDemand env p (some (.run speed))
        ((ev.atPoint p).withTest fun t => { t with step := some .fanStart, home := some .stop }) := by
  simp only [beginSteps, p.isLt, dif_pos, Ev.withTest_chan, Fin.eta, h]
  rfl

theorem beginSteps_beyond {k : Nat} (h : ¬k < 64) : beginSteps env n k ev = testDone env ev := by
  cases n with
  | zero => rfl
  | succ n => rw [beginSteps, dif_neg h]

end Begins

/-! ## Points whose step is over -/

/-- The step of `p` is over: its test demand is absent, and a test still RUNNING is at a point behind it. -/
structure Plant.StepOver (p : Point) (pl : Plant) : Prop where
  demand : (pl.chan p).testDemand = none
  later : pl.test.state = .running → ∃ q, pl.test.current = some q ∧ p.val < q.val

/-- What beginning the steps from `k` on makes of the plant `a`: the record gains entries, and of every point before
`k` without a test demand the step is over. -/
structure Plant.StepsFrom (k : Nat) (a b : Plant) : Prop where
  adds : ∃ es, a.test.Adds es b.test
  before : ∀ p : Point, p.val < k → (a.chan p).testDemand = none → b.StepOver p

section Steps
variable {env : Env} {ev : Ev}

theorem testDone_stepsFrom (k : Nat) : ev.plant.StepsFrom k (testDone env ev).plant where
  adds := ⟨[], by rw [testDone_test]; exact .of_eq rfl rfl⟩
  before p _ h := by
    refine ⟨(resolveAll_testDemand ..).trans h, fun running => ?_⟩
    rw [testDone_test] at running
    cases running

/-- A step that waits at its point. -/
theorem atPoint_stepsFrom (q : Point) (x : TestStep) (home a : Action) :
    ev.plant.StepsFrom q.val
      (setTestDemand env q (some a)
        ((ev.atPoint q).withTest fun t => { t with step := some x, home := some home })).plant where
  adds := ⟨[], by rw [setTestDemand_test]; exact .of_eq rfl rfl⟩
  before p hp h := by
    refine ⟨?_, fun _ => ⟨q, by rw [setTestDemand_test]; rfl, hp⟩⟩
    rw [setTestDemand_testDemand, if_neg (Fin.ne_of_lt hp)]
    exact h

theorem beginSteps_stepsFrom (n k : Nat) : ev.plant.StepsFrom k (beginSteps env n k ev).plant := by
  induction n generalizing k ev with
  | zero => exact testDone_stepsFrom k
  | succ n ih =>
    by_cases hk : k < 64
    · obtain ⟨q, rfl⟩ : ∃ q : Point, q.val = k := ⟨⟨k, hk⟩, rfl⟩
      cases hs : stepBegin (env.store.point q) (ev.plant.chan q) with
      | skip entry =>
        cases entry with
        | none =>
          rw [beginSteps_passes hs]
          obtain ⟨⟨es, added⟩, before⟩ := ih (ev := ev.atPoint q) (q.val + 1)
          exact ⟨⟨es, added.results, added.failed⟩, fun p hp => before p (Nat.lt_succ_of_lt hp)⟩
        | some o =>
          rw [beginSteps_skips hs]
          obtain ⟨⟨es, added⟩, before⟩ := ih (ev := (ev.atPoint q).withTest (·.add q o)) (q.val + 1)
          have all := (TestRecord.adds_add q o (ev.atPoint q).plant.test).trans added
          exact ⟨⟨_, all.results, all.failed⟩, fun p hp => before p (Nat.lt_succ_of_lt hp)⟩
      | damper home => rw [beginSteps_damper hs]; exact atPoint_stepsFrom ..
      | fan speed => rw [beginSteps_fan hs]; exact atPoint_stepsFrom ..
    · rw [beginSteps_beyond hk]
      exact testDone_stepsFrom k

/-- The step of `q` that ends with `o`, before the next begins. -/
def Ev.stepEnded (env : Env) (q : Point) (o : TestOutcome) (ev : Ev) : Ev :=
  setTestDemand env q none (ev.withTest fun t => (t.add q o).noStep)

theorem stepEnded_test (q : Point) (o : TestOutcome) :
    (ev.stepEnded env q o).plant.test = (ev.plant.test.add q o).noStep := setTestDemand_test ..

theorem stepEnded_testDemand (p q : Point) (o : TestOutcome) :
    ((ev.stepEnded env q o).plant.chan p).testDemand = if p = q then none else (ev.plant.chan p).testDemand :=
  setTestDemand_testDemand ..

theorem endStep_eq (q : Point) (o : TestOutcome) :
    endStep env q o ev = beginSteps env (ev.plant.test.remaining q) (q.val + 1) (ev.stepEnded env q o) := by
  rw [endStep, ← Ev.stepEnded, stepEnded_test]
  rfl

/-- A step's end: its entry first, then those of the steps that end at once (R121). -/
theorem endStep_adds (q : Point) (o : TestOutcome) :
    ∃ es, ev.plant.test.Adds ({ point := q, outcome := o } :: es) (endStep env q o ev).plant.test := by
  obtain ⟨es, added⟩ := (beginSteps_stepsFrom (env := env) (ev := ev.stepEnded env q o)
    (ev.plant.test.remaining q) (q.val + 1)).adds
  rw [stepEnded_test] at added
  rw [endStep_eq]
  have entry := TestRecord.adds_add q o ev.plant.test
  exact ⟨es, TestRecord.Adds.trans (b := (ev.plant.test.add q o).noStep) ⟨entry.results, entry.failed⟩ added⟩

/-- A step's end leaves the step of its point over, and of every point before it without a test demand. -/
theorem endStep_stepOver {p q : Point} (o : TestOutcome)
    (h : p = q ∨ p.val < q.val ∧ (ev.plant.chan p).testDemand = none) :
    (endStep env q o ev).plant.StepOver p := by
  rw [endStep_eq]
  refine (beginSteps_stepsFrom _ _).before p ?_ ?_
  · rcases h with rfl | h
    · exact Nat.lt_succ_self _
    · exact Nat.lt_succ_of_lt h.1
  · rw [stepEnded_testDemand]
    split
    · rfl
    · rename_i hne; exact (h.resolve_left hne).2

end Steps

/-! ## The reports, and the end of an event -/

/-- A property of the test record and the test demands that a step going on, and a step's end, keep. -/
structure TestLaw (env : Env) (P : Plant → Prop) : Prop where
  congr : ∀ {a b : Plant}, a.SameTest b → P a → P b
  goes : ∀ {ev : Ev} {q : Point} (x : TestStep) (a : Action), ev.underTest q = true → P ev.plant →
    P (setTestDemand env q (some a) (ev.withTest fun t => { t with step := some x })).plant
  ends : ∀ {ev : Ev} {q : Point} (o : TestOutcome), ev.underTest q = true → P ev.plant →
    P (endStep env q o ev).plant

section Laws
variable {env : Env} {P : Plant → Prop} (L : TestLaw env P)
include L

theorem TestLaw.keeps_checkRestore {ev : Ev} (h : P ev.plant) : P (checkRestore env ev).plant := by
  unfold checkRestore
  split
  · exact L.congr (setMode_resolveAll_sameTest env .normal ev) h
  · exact h

theorem TestLaw.keeps_takeDamperReport {ev : Ev} {q : Point} (hu : ev.underTest q = true) (pos : Option DamperPos)
    (x : DamperFault) (h : P ev.plant) : P (takeDamperReport env q pos x ev).plant := by
  unfold takeDamperReport
  split
  · split
    · exact L.ends _ hu h
    · split
      · exact L.goes _ _ hu h
      · exact h
  · split
    · exact L.ends _ hu h
    · split
      · exact L.ends _ hu h
      · exact h
  · exact h

theorem TestLaw.keeps_takeFanReport {ev : Ev} {q : Point} (hu : ev.underTest q = true) (x : FanState) (y : FanFault)
    (h : P ev.plant) : P (takeFanReport env q x y ev).plant := by
  unfold takeFanReport
  split
  · split
    · exact L.goes _ _ hu h
    · exact L.ends _ hu h
    · exact h
  · split
    · exact L.ends _ hu h
    · exact h
  · exact h

theorem TestLaw.keeps_takeReport {ev : Ev} (r : Report) (h : P ev.plant) : P (takeReport env ev r).plant := by
  cases r with
  | damper q pos x =>
    simp only [takeReport]
    split
    · exact L.keeps_takeDamperReport ‹_› pos x h
    · exact h
  | fan q x y =>
    simp only [takeReport]
    split
    · exact L.keeps_takeFanReport ‹_› x y (L.keeps_checkRestore h)
    · exact L.keeps_checkRestore h
  | override q =>
    simp only [takeReport, Bool.and_eq_true]
    split
    · rename_i hu; exact L.ends _ hu.1 h
    · exact h
  | restoreCheck => exact L.keeps_checkRestore h

theorem TestLaw.keeps_settle (n : Nat) {ev : Ev} (h : P ev.plant) : P (settle env n ev).plant := by
  induction n generalizing ev with
  | zero => exact h
  | succ n ih =>
    unfold settle
    split
    · exact h
    · exact ih (foldl_keeps (P := P) (fun _ r k => L.keeps_takeReport r k) _ (ev := { ev with reports := [] }) h)

end Laws

/-- After its reports an event changes neither the mode, nor the test record, nor the resolver's side of a channel. -/
theorem finishEvent_afterReports (env : Env) (ev : Ev) :
    (finishEvent env ev).plant.mode = (settleAll env ev).plant.mode ∧
      (settleAll env ev).plant.SameTest (finishEvent env ev).plant ∧
      ∀ q, ((finishEvent env ev).plant.chan q).resolverSide = ((settleAll env ev).plant.chan q).resolverSide := by
  have k : (settleAll env ev).plant.SequencersOnly
      (if (settleAll env ev).evalDue then evaluate env (settleAll env ev) else settleAll env ev).plant := by
    split
    · exact evaluate_frame sequencersOnly_frame env _
    · exact sequencersOnly_frame.refl _
  have ⟨mode, _⟩ := k
  have ⟨test, demands⟩ := k.sameTest
  exact ⟨mode, ⟨test, demands⟩, k.resolverSide⟩

theorem TestLaw.keeps_finishEvent {env : Env} {P : Plant → Prop} (L : TestLaw env P) {ev : Ev} (h : P ev.plant) :
    P (finishEvent env ev).plant := by
  obtain ⟨-, same, -⟩ := finishEvent_afterReports env ev
  exact L.congr same (L.keeps_settle _ h)

/-- From a record `t` on: entries behind `e` have been added to it, and the step of `p` is over. -/
structure Plant.Entered (p : Point) (e : TestEntry) (t : TestRecord) (pl : Plant) : Prop where
  adds : ∃ es, t.Adds (e :: es) pl.test
  done : pl.StepOver p

theorem endStep_entered {env : Env} {ev : Ev} (p : Point) (o : TestOutcome) :
    (endStep env p o ev).plant.Entered p { point := p, outcome := o } ev.plant.test :=
  ⟨endStep_adds p o, endStep_stepOver o (.inl rfl)⟩

theorem Ev.underTest_iff {q : Point} {ev : Ev} :
    ev.underTest q = true ↔ ev.plant.test.state = .running ∧ ev.plant.test.current = some q := decide_eq_true_iff

/-- The point under test is behind every point whose step is over. -/
theorem Plant.StepOver.before {p q : Point} {ev : Ev} (h : ev.plant.StepOver p) (hu : ev.underTest q = true) :
    p.val < q.val := by
  obtain ⟨running, current⟩ := Ev.underTest_iff.mp hu
  obtain ⟨x, hx, later⟩ := h.later running
  cases current.symm.trans hx
  exact later

/-- Entries stay, and a step that is over is not taken up again: later steps are at later points. -/
theorem entered_law (env : Env) (p : Point) (e : TestEntry) (t : TestRecord) : TestLaw env (Plant.Entered p e t) where
  congr same h := by
    obtain ⟨adds, demand, later⟩ := h
    exact ⟨by rw [same.record]; exact adds, (same.demands p).trans demand, by rw [same.record]; exact later⟩
  goes {ev q} x a hu h := by
    obtain ⟨⟨es, added⟩, stepOver⟩ := h
    refine ⟨⟨es, by rw [setTestDemand_test]; exact ⟨added.results, added.failed⟩⟩, ?_, ?_⟩
    · rw [setTestDemand_testDemand, if_neg (Fin.ne_of_lt (stepOver.before hu))]
      exact stepOver.demand
    · rw [setTestDemand_test]; exact stepOver.later
  ends {ev q} o hu h := by
    obtain ⟨⟨es, added⟩, stepOver⟩ := h
    obtain ⟨fs, more⟩ := endStep_adds (env := env) (ev := ev) q o
    exact ⟨⟨_, added.trans more⟩, endStep_stepOver o (.inr ⟨stepOver.before hu, stepOver.demand⟩)⟩

end Sys2Proof.Machine
end

section
/-! SUPPORT and the statement about the scheduler's joining report. -/

namespace Sys2Proof.Machine

theorem exec_joiningReport {s : State} (hh : s.held = false) :
    exec .joiningReport s = .next (s.runEvent joiningReportTaken) :=
  congrArg Host.Outcome.next (State.unlessHeld_of_not_held hh _)

section Joining
variable {env : Env} {ev : Ev} {r : JoinReport}

/-- The fan of the report is under test in FAN-START (R129). -/
def JoinReport.Mine (r : JoinReport) (t : TestRecord) : Prop :=
  t.state = .running ∧ t.current = some r.point ∧ t.step = some .fanStart

/-- PATH and DRIVE end the step (R129). -/
theorem takeJoinReport_ends (hm : r.Mine ev.plant.test) (hr : r.reason = some .path ∨ r.reason = some .drive) :
    takeJoinReport env r ev = endStep env r.point (if r.reason = some .path then .failPath else .failDrive) ev := by
  refine (if_pos hm).trans ?_
  rcases hr with e | e <;> rw [e] <;> rfl

/-- Every other report is ignored (R124, R129). -/
theorem takeJoinReport_ignored
    (h : ¬r.Mine ev.plant.test ∨ (r.reason ≠ some .path ∧ r.reason ≠ some .drive)) : takeJoinReport env r ev = ev := by
  unfold takeJoinReport
  split
  · rename_i hm
    obtain ⟨path, drive⟩ := h.resolve_left fun k => k hm
    split
    · exact absurd ‹_› path
    · exact absurd ‹_› drive
    · rfl
  · rfl

end Joining

/-- An event that reports nothing, brings no evaluation and notes no joining is over. -/
theorem finishEvent_of_nothing {env : Env} {ev : Ev} (hr : ev.reports = []) (hd : ev.evalDue = false)
    (hj : ev.joined = []) : finishEvent env ev = ev := by
  have settled : settleAll env ev = ev := by simp only [settleAll, Config.settleRounds, settle, hr]
  obtain ⟨pl, marks, reports, due, joined⟩ := ev
  obtain rfl : due = false := hd
  obtain rfl : joined = [] := hj
  simp [finishEvent, settled, Ev.withPlant]

/-- Settles O43: PATH and DRIVE end the step of their fan (`takeJoinReport_ends`), whose entry stays and whose test
demand stays absent to the end of the event (`entered_law`); any other report leaves an event with nothing to take
up. -/
theorem joiningReportJudges : Obligations.JoiningReportJudges := by
  intro s r rs hh hj mine
  let ev : Ev := (Ev.start s.plant).withPlant fun pl => { pl with joinReports := rs }
  have taken : joiningReportTaken s.env (.start s.plant) = takeJoinReport s.env r ev := by
    simp only [joiningReportTaken, Ev.start_plant, hj]
    rfl
  refine ⟨fun hm hr => ?_, fun h => ?_⟩
  · have ended := taken.trans (takeJoinReport_ends (ev := ev) hm hr)
    obtain ⟨⟨more, results, failed⟩, demand, -⟩ :=
      (entered_law s.env r.point _ _).keeps_finishEvent (endStep_entered (env := s.env) (ev := ev) r.point
        (if r.reason = some .path then .failPath else .failDrive))
    rw [← ended, ← State.runEvent_plant] at results failed demand
    refine ⟨_, more, exec_joiningReport hh, results, demand, ?_, ?_, State.runEvent_portsMarked _ s,
      State.runEvent_outsidePlant _ s⟩
    · have counted : (if r.reason = some .path then TestOutcome.failPath else .failDrive).failed = true := by
        split <;> rfl
      rw [failed, List.filter_cons_of_pos (by exact counted), List.length_cons]
      exact Nat.add_le_add_left (Nat.le_add_left 1 _) _
    · refine runEvent_frame entriesKept_frame _ s ?_
      rw [taken]
      exact entriesKept_frame.trans (entriesKept_frame.rest s.plant _ _ _ rs _)
        (takeJoinReport_frame entriesKept_frame s.env r ev)
  · have nothing : finishEvent s.env (joiningReportTaken s.env (.start s.plant)) = ev := by
      rw [taken, takeJoinReport_ignored (ev := ev) h]
      exact finishEvent_of_nothing rfl rfl rfl
    rw [exec_joiningReport hh, State.runEvent, nothing]
    rfl

end Sys2Proof.Machine
end

section
/-! SUPPORT and the statement about PTHL and PTRD: a test that has stopped stays as it is to the end of an event
(`Upd.sameTest_of_stopped`). -/

namespace Sys2Proof.Machine

/-! ## A test that has stopped -/

/-- A channel replaced by one with the same test demand. -/
theorem Plant.sameTest_setChan {pl : Plant} {q : Point} {c : Channel}
    (h : c.testDemand = (pl.chan q).testDemand) : pl.SameTest (pl.setChan q c) := by
  refine ⟨rfl, fun p => ?_⟩
  rw [Plant.chan_setChan]
  split
  · rename_i e; subst e; exact h
  · rfl

/-- Only a RUNNING test changes its record or sets a test demand. -/
theorem Upd.sameTest_of_stopped {env : Env} {Q : Prop} {a b : Ev} (u : Upd env Q a b)
    (h : a.plant.test.state ≠ .running) : a.plant.SameTest b.plant := by
  cases u with
  | seq u => exact u.sequencersOnly.sameTest
  | res u =>
    cases u with
    | book hp _ _ => rw [hp]; exact ⟨rfl, fun _ => rfl⟩
    | lastFire q _ _ => exact Plant.sameTest_setChan (by rfl)
    | noDemand q _ => exact Plant.sameTest_setChan (by rfl)
    | demand q _ => exact Plant.sameTest_setChan (pl := a.plant) (by rfl)
    | testDemand q x running => exact absurd running h
    | test g running _ => exact absurd running h
    | testDone running => exact absurd running h
    | restored _ => exact ⟨rfl, fun _ => rfl⟩
    | joins => exact ⟨rfl, fun _ => rfl⟩

/-- A test that the first part of an event leaves stopped is as it leaves it at the end. -/
theorem State.runEvent_sameTest {s : State} {g : Env → Ev → Ev}
    (h : (g s.env (.start s.plant)).plant.test.state ≠ .running) :
    (g s.env (.start s.plant)).plant.SameTest (s.runEvent g).plant :=
  State.runEvent_keeps (P := (g s.env (.start s.plant)).plant.SameTest)
    (fun _ _ u k => k.trans (u.sameTest_of_stopped (by rw [k.record]; exact h))) (.refl _)

/-! ## A test aborted (R133, R134) -/

/-- The record of a test aborted at the point `p`. -/
def TestRecord.abortedAt (p : Point) (t : TestRecord) : TestRecord :=
  { t with
    state := .aborted
    step := none
    home := none
    results := t.results ++ [{ point := p, outcome := .aborted }] }

/-- The plant `b` is `a` with its test aborted at `p`: the point under test has its entry, which is not counted as
failed, and no test demand. -/
structure Plant.AbortedAt (p : Point) (a b : Plant) : Prop where
  record : b.test = a.test.abortedAt p
  demand : (b.chan p).testDemand = none

theorem Plant.AbortedAt.not_running {p : Point} {a b : Plant} (h : a.AbortedAt p b) : b.test.state ≠ .running := by
  rw [h.record]
  exact fun x => by cases x

theorem Plant.AbortedAt.congr {p : Point} {a b c : Plant} (h : a.AbortedAt p b) (k : b.SameTest c) : a.AbortedAt p c :=
  ⟨k.record.trans h.record, (k.demands p).trans h.demand⟩

theorem abortTest_abortedAt {ev : Ev} {p : Point} (hc : ev.plant.test.current = some p) :
    ev.plant.AbortedAt p (abortTest ev).plant := by
  simp only [abortTest, hc]
  exact ⟨rfl, by simp⟩

theorem haltTest_abortedAt {env : Env} {ev : Ev} {p : Point} (hc : ev.plant.test.current = some p) :
    ev.plant.AbortedAt p (haltTest env ev).plant :=
  (abortTest_abortedAt hc).congr (setMode_resolveAll_sameTest env .normal _)

/-- A halted test leaves NORMAL with no test running. -/
theorem haltTest_steady (env : Env) (ev : Ev) : (haltTest env ev).plant.Steady .normal :=
  ⟨resolveAll_mode .., by rw [haltTest, resolveAll_test]; exact abortTest_not_running ev⟩

theorem haltTest_entriesKept (env : Env) (ev : Ev) : ev.plant.EntriesKept (haltTest env ev).plant :=
  entriesKept_frame.trans (abortTest_frame entriesKept_frame ev)
    (entriesKept_frame.trans (setMode_frame entriesKept_frame .normal _)
      (resolveAll_frame entriesKept_frame env false _))

/-! ## PTHL and PTRD (R133, R136) -/

/-- An order that runs one event of the plant and is answered DONE. -/
theorem exec_eventAnswered {k : OrderKind} {i : PortId} {b1 b2 b3 : Byte} {s : State} {g : Env → Ev → Ev}
    (h : s.PortAtRest i) (ha : portAllowed k i = true)
    (hd : runOrder k i ⟨k.code, b1, b2, b3⟩ (s.taking i ⟨k.code, b1, b2, b3⟩) =
      done ⟨k.code, b1, b2, b3⟩ ((s.taking i ⟨k.code, b1, b2, b3⟩).runEvent g)) :
    ∃ t, exec (orderCommand k i b1 b2 b3) s = .next t ∧ s.Answered t i .done b1 b2 b3 ∧ s.OutsidePlant t ∧
      t.plant = (s.runEvent g).plant :=
  ⟨_, exec_done h ha hd,
    State.replied_answered (o := ⟨k.code, b1, b2, b3⟩) h (State.runEvent_portsMarked g _),
    ⟨rfl, rfl, rfl, rfl, rfl, rfl, rfl, rfl⟩, rfl⟩

/-- An order that is answered with results and changes nothing. -/
theorem exec_resulted {k : OrderKind} {i : PortId} {b1 b2 b3 r1 r2 r3 : Byte} {s : State} (h : s.PortAtRest i)
    (ha : portAllowed k i = true)
    (hd : runOrder k i ⟨k.code, b1, b2, b3⟩ (s.taking i ⟨k.code, b1, b2, b3⟩) =
      result r1 r2 r3 (s.taking i ⟨k.code, b1, b2, b3⟩)) :
    exec (orderCommand k i b1 b2 b3) s = .next (s.withReply i .done r1 r2 r3) := by
  have ⟨awake, _⟩ := h
  rw [exec_orderCommand k i b1 b2 b3 awake]
  exact congrArg _ (deliverOrder_reply h ((decodeOrder_allowed b1 b2 b3 _ ha).trans hd))

/-- Settles O42: the abort leaves the record as stated, and a test that has stopped stays so to the end of the event
(`Upd.sameTest_of_stopped`), in NORMAL; the result list is read at the index of the order. -/
theorem haltAndResultList : Obligations.HaltAndResultList := by
  intro s b1 b2 b3 h
  have halts : runOrder .pthl .b ⟨OrderKind.pthl.code, b1, b2, b3⟩ (s.taking .b ⟨OrderKind.pthl.code, b1, b2, b3⟩) =
      if s.plant.test.state = .running then
        done ⟨OrderKind.pthl.code, b1, b2, b3⟩ ((s.taking .b ⟨OrderKind.pthl.code, b1, b2, b3⟩).runEvent haltTest)
      else refuse .state ⟨OrderKind.pthl.code, b1, b2, b3⟩ (s.taking .b ⟨OrderKind.pthl.code, b1, b2, b3⟩) := rfl
  refine ⟨fun hr => exec_refused (k := .pthl) h rfl (halts.trans (if_neg hr)), fun p hr hc => ?_, ?_⟩
  · obtain ⟨t, e, answered, outside, plant⟩ := exec_eventAnswered (k := .pthl) h rfl (halts.trans (if_pos hr))
    have halted := haltTest_abortedAt (env := s.env) (ev := .start s.plant) hc
    obtain ⟨record, demand⟩ := halted.congr (State.runEvent_sameTest halted.not_running)
    obtain ⟨mode, -⟩ := State.runEvent_keeps (P := Plant.Steady .normal) (fun _ _ u => u.keeps_steady (by decide))
      (haltTest_steady s.env (.start s.plant))
    have entries := runEvent_frame entriesKept_frame haltTest s (haltTest_entriesKept s.env (.start s.plant))
    rw [← plant] at record demand mode entries
    exact ⟨t, e, answered, outside, record, demand, mode, entries⟩
  · intro o outcome l
    let order : Order := ⟨OrderKind.ptrd.code, b1, b2, b3⟩
    have reads : runOrder .ptrd .b order (s.taking .b order) =
        if 63 < b1.toNat then refuse .range order (s.taking .b order)
        else
          match l[b1.toNat]? with
          | some e => result (byte e.point.val) (byte e.outcome.code) (byte l.length) (s.taking .b order)
          | none => result noneByte noneByte (byte l.length) (s.taking .b order) := rfl
    have code (x : TestOutcome) : x.code = outcome x := by cases x <;> rfl
    refine ⟨fun hb => exec_refused (k := .ptrd) h rfl (reads.trans (if_pos hb)),
      fun hb => ⟨fun e he => ?_, fun hl => ?_⟩⟩ <;> rw [if_neg (Nat.not_lt.mpr hb)] at reads
    · rw [he] at reads
      rw [← code e.outcome]
      exact exec_resulted (k := .ptrd) h rfl reads
    · rw [List.getElem?_eq_none hl] at reads
      exact exec_resulted (k := .ptrd) h rfl reads

end Sys2Proof.Machine
end

section
/-! SUPPORT. A TIMED damper under test in DAMPER-OUT: no demand that is handed, to it or to another point, proves it
OPEN or records a fault of it within the event, so that no report of the event moves its step (`Ev.Quiet`,
`takeReport_awaiting`). -/

namespace Sys2Proof.Machine

/-! ## The record (R52, R56 to R58) -/

/-- Not in OPEN, and without a fault. -/
structure Damper.ShortOfOpen (d : Damper) : Prop where
  pos : d.pos ≠ .opened
  fault : d.fault = .none

section Record
variable {c : PointCfg} (hc : c.feedback = .timed) {d : Damper}
include hc

/-- Under TIMED a stroke begins without its proof. -/
theorem Damper.ShortOfOpen.strokeTowards (h : d.fault = .none) (e : DamperEnd) :
    (d.strokeTowards c e).ShortOfOpen := by
  rw [Damper.strokeTowards_of_inactive (limitActive_timed hc d e)]
  exact ⟨by cases e <;> simp [DamperEnd.moving], h⟩

theorem Damper.ShortOfOpen.takeDemand (h : d.ShortOfOpen) (turning : Bool) (e : DamperEnd) (src : Source) :
    (d.takeDemand c turning e src).ShortOfOpen := by
  obtain ⟨pos, fault⟩ := h
  have stroke (x : DamperEnd) :
      (({ d with held := some { target := e, source := src } } : Damper).strokeTowards c x).ShortOfOpen :=
    .strokeTowards hc (d := { d with held := some { target := e, source := src } }) fault x
  unfold Damper.takeDemand
  dsimp only
  split
  · split
    · exact stroke _
    · exact ⟨pos, fault⟩
  · cases e with
    | openEnd => exact stroke _
    | closedEnd =>
      dsimp only
      split
      · exact ⟨by simp [Damper.enterWaitFan], fault⟩
      · exact stroke _

end Record

/-! ## The reports -/

/-- A report that says nothing of the point `p`, or of a damper there neither OPEN nor a fault. -/
def Report.QuietOf (p : Point) : Report → Prop
  | .damper q pos fault => q = p → pos ≠ some .opened ∧ fault = .none
  | .fan q _ _ => q ≠ p
  | .override q => q ≠ p
  | .restoreCheck => True

/-- The point `p` is a damper that stands short of OPEN, and no report of the event says otherwise. -/
structure Ev.Quiet (p : Point) (ev : Ev) : Prop where
  record : ∃ d, ev.plant.damper? p = some d ∧ d.ShortOfOpen
  reports : ∀ r ∈ ev.reports, r.QuietOf p

section Quiet
variable {env : Env} {p : Point} {ev : Ev}

theorem Ev.Quiet.congr {a b : Ev} (h : a.Quiet p) (hd : b.plant.damper? p = a.plant.damper? p)
    (hr : b.reports = a.reports) : b.Quiet p := ⟨by rw [hd]; exact h.record, by rw [hr]; exact h.reports⟩

theorem Ev.Quiet.report (h : ev.Quiet p) {r : Report} (hr : r.QuietOf p) : (ev.report r).Quiet p := by
  refine ⟨h.record, fun x hx => ?_⟩
  rcases List.mem_append.mp hx with hx | hx
  · exact h.reports x hx
  · rw [List.mem_singleton.mp hx]; exact hr

/-- A channel replaced by one with the same record, or at another point. -/
theorem Ev.Quiet.setChan (h : ev.Quiet p) {q : Point} {c : Channel} (hc : q = p → c.unit = (ev.plant.chan p).unit) :
    (ev.setChan q c).Quiet p := by
  refine h.congr ?_ rfl
  rw [Ev.setChan_plant, Plant.damper?_setChan]
  split
  · rename_i e; simp only [Plant.damper?, Channel.damper?, hc e.symm]
  · rfl

theorem Ev.Quiet.fan?_eq_none (h : ev.Quiet p) : ev.plant.fan? p = none := by
  obtain ⟨d, hd, -⟩ := h.record
  exact Plant.fan?_of_damper? hd

theorem foldl_quiet {α : Type} {f : Ev → α → Ev} (hf : ∀ ev x, ev.Quiet p → (f ev x).Quiet p) (l : List α)
    (h : ev.Quiet p) : (l.foldl f ev).Quiet p := by
  induction l generalizing ev with
  | nil => exact h
  | cons x xs ih => exact ih (hf _ _ h)

theorem schedulerFollows_reports (q : Point) (o f : Fan) : (schedulerFollows env q o f ev).reports = ev.reports := by
  have queue : (queueFollows env q o f ev).reports = ev.reports := by
    unfold queueFollows Ev.noteJoining
    split
    · split <;> rfl
    · split <;> rfl
  have units (n : Nat) (x : Ev) : (x.unitsReturned n).reports = x.reports := by
    unfold Ev.unitsReturned Ev.testPendingLimit
    dsimp only [Ev.evaluateIf_reports]
    split
    · rfl
    · split <;> rfl
  obtain ⟨b, e⟩ := schedulerFollows_eq env q o f ev
  rw [e, Ev.evaluateIf_reports]
  split
  · rw [units, queue]
  · exact queue

/-! ## The operations of the sequencers -/

theorem putDamper_quiet (h : ev.Quiet p) {q : Point} {d : Damper} (hd : q = p → d.ShortOfOpen) :
    (putDamper env q d ev).Quiet p := by
  cases ho : ev.plant.damper? q with
  | none => simpa [putDamper, ho] using h
  | some o =>
    have record : ∃ x, (putDamper env q d ev).plant.damper? p = some x ∧ x.ShortOfOpen := by
      by_cases e : p = q
      · subst e; exact ⟨d, putDamper_damper?_self env d ho, hd rfl⟩
      · rw [putDamper_damper?_ne env d ev e]; exact h.record
    refine ⟨record, ?_⟩
    unfold putDamper
    simp only [ho]
    split
    · intro r hr
      rw [Ev.report_reports, Ev.evaluateIf_reports, Ev.markIf_reports, Ev.setChan_reports, List.mem_append,
        List.mem_singleton] at hr
      rcases hr with hr | rfl
      · exact h.reports r hr
      · rintro rfl
        obtain ⟨pos, fault⟩ := hd rfl
        exact ⟨by split <;> simp [pos], by split <;> simp [fault]⟩
    · intro r hr
      rw [Ev.evaluateIf_reports, Ev.markIf_reports, Ev.setChan_reports] at hr
      exact h.reports r hr

/-- The record of `p`, seen again. -/
theorem Ev.Quiet.shortOfOpen (h : ev.Quiet p) {q : Point} {d : Damper} (hd : ev.plant.damper? q = some d) (e : q = p) :
    d.ShortOfOpen := by
  subst e
  obtain ⟨x, hx, short⟩ := h.record
  cases hx.symm.trans hd
  exact short

section Handed
variable (ht : (env.store.point p).feedback = .timed)
include ht

theorem releaseWaiting_quiet (h : ev.Quiet p) : (releaseWaiting env ev).Quiet p := by
  refine foldl_quiet (fun x q hx => ?_) _ h
  unfold releaseOne
  split
  · exact hx
  · rename_i d hd
    split
    · refine putDamper_quiet hx fun e => ?_
      have short := hx.shortOfOpen hd e
      subst e
      exact .strokeTowards ht short.fault _
    · exact hx

theorem putFan_quiet (h : ev.Quiet p) (q : Point) (f : Fan) : (putFan env q f ev).Quiet p := by
  cases ho : ev.plant.fan? q with
  | none => simpa [putFan, ho] using h
  | some o =>
    have ne : q ≠ p := by
      rintro rfl
      rw [h.fan?_eq_none] at ho
      cases ho
    obtain ⟨b, r, c, -, e⟩ := putFan_eq env q f ho
    have follows (g : Fan) (x : Ev) (hx : x.Quiet p) : (schedulerFollows env q o g x).Quiet p :=
      hx.congr (by simp only [Plant.damper?, schedulerFollows_chan]) (schedulerFollows_reports q o g)
    have written (ch : Channel) : ((ev.setChan q ch).markIf b q).Quiet p :=
      (h.setChan (c := ch) fun e => absurd e ne).congr (by rw [Ev.markIf_plant]) (Ev.markIf_reports ..)
    rw [e]
    have reported (x : Ev) (hx : x.Quiet p) (s : FanState) (y : FanFault) :
        (if r then x.report (.fan q s y) else x).Quiet p := by
      split
      · exact hx.report ne
      · exact hx
    split
    · exact releaseWaiting_quiet ht (reported _ (follows _ _ (written _)) _ _)
    · exact reported _ (follows _ _ (written _)) _ _

theorem enterRunDown_quiet (h : ev.Quiet p) (q : Point) : (enterRunDown env q ev).Quiet p := by
  cases ho : ev.plant.fan? q with
  | none => simpa [enterRunDown, ho] using h
  | some o =>
    rw [enterRunDown_eq env ho]
    split
    · exact putFan_quiet ht (putFan_quiet ht h q _) q _
    · exact putFan_quiet ht h q _

theorem tripPathFans_quiet (h : ev.Quiet p) (q : Point) : (tripPathFans env q ev).Quiet p := by
  refine foldl_quiet (fun x y hx => ?_) _ h
  unfold interlockTrip
  split
  · exact hx
  · split
    · exact enterRunDown_quiet ht hx y
    · exact hx

theorem handDamper_quiet (h : ev.Quiet p) (q : Point) (e : DamperEnd) (src : Source) :
    (handDamper env q e src ev).Quiet p := by
  unfold handDamper
  split
  · exact h
  · rename_i d hd
    have put : (putDamper env q
        (d.takeDemand (env.store.point q) (anyPathFanTurning env.store ev.plant q) e src) ev).Quiet p := by
      refine putDamper_quiet h fun x => ?_
      have short := h.shortOfOpen hd x
      subst x
      exact short.takeDemand ht ..
    unfold moveDamper
    dsimp only
    split
    · exact tripPathFans_quiet ht put q
    · exact put

theorem handFan_quiet (h : ev.Quiet p) (q : Point) (w : FanWant) (src : Source) :
    (handFan env q w src ev).Quiet p := by
  unfold handFan
  split
  · exact h
  · have put (f : Fan) : (putFan env q f ev).Quiet p := putFan_quiet ht h q f
    dsimp only
    split
    · exact put _
    · exact put _
    · exact (put _).congr rfl rfl
    iterate 3
      · split
        · exact enterRunDown_quiet ht (put _) q
        · exact put _
    iterate 3 · exact enterRunDown_quiet ht (put _) q
    iterate 3 · exact put _

theorem handDemand_quiet (h : ev.Quiet p) (q : Point) (x : Demand) : (handDemand env q x ev).Quiet p := by
  unfold handDemand
  split
  · exact h
  · exact handDamper_quiet ht h ..
  · exact handFan_quiet ht h ..

/-! ## The resolver -/

/-- A demand of `p` whose source is not OVERRIDE, or of another point. -/
theorem handOver_quiet (h : ev.Quiet p) (q : Point) (x : Demand) (hx : q = p → x.source ≠ .override) :
    (handOver env q x ev).Quiet p := by
  unfold handOver
  dsimp only
  refine handDemand_quiet ht ?_ q x
  have kept : ((ev.setChan q { ev.plant.chan q with resolved := some x }).mark q).Quiet p :=
    (h.setChan fun e => by rw [e]).congr rfl rfl
  split
  · rename_i ho
    exact kept.report fun e => hx e ho.1
  · exact kept

omit ht in
theorem storeLastFire_quiet (h : ev.Quiet p) (q : Point) : (storeLastFire env q ev).Quiet p := by
  unfold storeLastFire
  split
  · exact h.setChan fun e => by rw [e]
  · exact h

theorem resolvePoint_quiet (h : ev.Quiet p) (ho : (ev.plant.chan p).override = .auto) (b : Bool) (q : Point) :
    (resolvePoint env b ev q).Quiet p := by
  unfold resolvePoint
  split
  · exact h.setChan fun e => by rw [e]
  · dsimp only
    have stored : (storeLastFire env q ev).Quiet p := storeLastFire_quiet h q
    split
    · refine handOver_quiet ht stored q _ ?_
      rintro rfl
      obtain ⟨-, -, override, -⟩ := storeLastFire_frame entriesKept_frame env q ev q
      rw [ne_eq, resolution_source, override, ho]
      exact fun x => x rfl
    · exact stored

theorem resolveAll_quiet (h : ev.Quiet p) (ho : (ev.plant.chan p).override = .auto) (b : Bool) :
    (resolveAll env b ev).Quiet p := by
  have stored : (storeAllLastFire env ev).Quiet p := by
    refine foldl_quiet (fun x q hx => ?_) _ h
    split
    · exact hx
    · exact storeLastFire_quiet hx q
  have resolved (l : List Point) {x : Ev} (hx : x.Quiet p) (auto : (x.plant.chan p).override = .auto) :
      (resolveInOrder env b l x).Quiet p := by
    unfold resolveInOrder
    induction l generalizing x with
    | nil => exact hx
    | cons q qs ih =>
      obtain ⟨-, -, override, -⟩ := resolvePoint_frame entriesKept_frame env b x q p
      exact ih (resolvePoint_quiet ht hx auto b q) (override.trans auto)
  obtain ⟨-, -, override, -⟩ := storeAllLastFire_frame entriesKept_frame env ev p
  exact resolved _ (x := (storeAllLastFire env ev).draw) (stored.congr rfl rfl) (override.trans ho)

theorem setTestDemand_quiet (h : ev.Quiet p) (ho : (ev.plant.chan p).override = .auto) (a : Option Action) :
    (setTestDemand env p a ev).Quiet p := by
  have set : (ev.setChan p { ev.plant.chan p with testDemand := a }).Quiet p := h.setChan fun _ => rfl
  unfold setTestDemand
  refine resolvePoint_quiet ht set ?_ false p
  rw [Ev.setChan_plant, Plant.chan_setChan_self]
  exact ho

end Handed
end Quiet

/-! ## A step that waits for OPEN -/

/-- In TEST the damper `p` is under test in DAMPER-OUT, away from its home CLOSE. -/
structure Plant.AwaitsOpen (p : Point) (pl : Plant) : Prop where
  mode : pl.mode = .test
  current : pl.test.current = some p
  step : pl.test.step = some .damperOut
  home : pl.test.home = some .toClose

section Awaiting
variable {env : Env} {p : Point} {ev : Ev}

/-- No quiet report moves or ends the step. -/
theorem takeReport_awaiting (h : ev.plant.AwaitsOpen p) {r : Report} (hr : r.QuietOf p) : takeReport env ev r = ev := by
  have untested {q : Point} (ne : q ≠ p) : ev.underTest q = false := by
    simp [Ev.underTest, h.current, Ne.symm ne]
  have check : checkRestore env ev = ev := by simp [checkRestore, h.mode]
  cases r with
  | damper q pos fault =>
    by_cases e : q = p
    · obtain ⟨unopened, rfl⟩ := hr e
      have opened : (Action.toClose.opposite.damperEnd).proven = .opened := rfl
      simp [takeReport, takeDamperReport, h.step, h.home, opened, unopened]
    · simp [takeReport, untested e]
  | fan q x y =>
    have ne : q ≠ p := hr
    simp [takeReport, check, untested ne]
  | override q =>
    have ne : q ≠ p := hr
    simp [takeReport, untested ne]
  | restoreCheck => exact check

/-- Reports that each bring nothing leave the plant as it is. -/
theorem settleAll_plant_of_ignored
    (h : ∀ r ∈ ev.reports, takeReport env { ev with reports := [] } r = { ev with reports := [] }) :
    (settleAll env ev).plant = ev.plant := by
  have fold (l : List Report) (x : Ev) (hl : ∀ r ∈ l, takeReport env x r = x) : l.foldl (takeReport env) x = x := by
    induction l with
    | nil => rfl
    | cons r rs ih =>
      rw [List.foldl_cons, hl r List.mem_cons_self]
      exact ih fun y hy => hl y (List.mem_cons_of_mem _ hy)
  rw [settleAll, Config.settleRounds, settle]
  split
  · rfl
  · rw [fold _ _ h, settle]

/-- To the end of the event the step goes on waiting. -/
theorem finishEvent_awaiting (h : ev.plant.AwaitsOpen p) (hq : ev.Quiet p) :
    (finishEvent env ev).plant.mode = .test ∧ (finishEvent env ev).plant.test = ev.plant.test ∧
      ((finishEvent env ev).plant.chan p).resolverSide = (ev.plant.chan p).resolverSide := by
  have settled : (settleAll env ev).plant = ev.plant :=
    settleAll_plant_of_ignored fun r hr =>
      takeReport_awaiting (ev := { ev with reports := [] }) ⟨h.mode, h.current, h.step, h.home⟩ (hq.reports r hr)
  obtain ⟨mode, ⟨test, -⟩, side⟩ := finishEvent_afterReports env ev
  rw [settled] at mode test side
  exact ⟨mode.trans h.mode, test, side p⟩

end Awaiting

end Sys2Proof.Machine
end

section
/-! SUPPORT and the statement about PTST. -/

namespace Sys2Proof.Machine

/-! ## What a step begins with, by the point's record (R123) -/

section StepBegin
variable {c : PointCfg} {ch : Channel}

theorem stepBegin_unused (h : ch.unit = .unused) : stepBegin c ch = .skip none := by rw [stepBegin, h]

theorem stepBegin_override (h : ch.unit ≠ .unused) (ho : ch.override ≠ .auto) :
    stepBegin c ch = .skip (some .skipOverride) := by
  unfold stepBegin
  split
  · rename_i e; exact absurd e h
  · exact if_pos ho
  · exact if_pos ho

theorem stepBegin_damper {d : Damper} (h : ch.unit = .damper d) (ho : ch.override = .auto) :
    stepBegin c ch = if d.fault = .none then .damper (ch.normal.inForm c) else .skip (some .skipFault) := by
  simp only [stepBegin, h, ho, ne_eq, not_true_eq_false, if_false, ite_not]

theorem stepBegin_fan_fault {f : Fan} (h : ch.unit = .fan f) (ho : ch.override = .auto) (hf : f.state = .fault) :
    stepBegin c ch = .skip (some .skipFault) := by
  simp only [stepBegin, h, ho, hf, ne_eq, not_true_eq_false, if_false, if_true]

theorem stepBegin_fan_run {f : Fan} {v : Nat} (h : ch.unit = .fan f) (ho : ch.override = .auto)
    (hf : f.state ≠ .fault) (hn : ch.normal.inForm c = .run v) :
    stepBegin c ch = .skip (some (if f.state = .running then .pass else .failStart)) := by
  simp only [stepBegin, h, ho, hf, hn, ne_eq, not_true_eq_false, if_false]

theorem stepBegin_fan_stop {f : Fan} (h : ch.unit = .fan f) (ho : ch.override = .auto)
    (hf : f.state ≠ .fault) (hn : ch.normal.inForm c = .stop) : stepBegin c ch = .fan c.nOVS := by
  simp only [stepBegin, h, ho, hf, hn, ne_eq, not_true_eq_false, if_false]

end StepBegin

/-- A range of UNUSED points is passed: the last of them is the current point, and the test is done. -/
theorem beginSteps_of_unused {env : Env} (n k : Nat) {ev : Ev}
    (h : ∀ q : Point, k ≤ q.val → q.val < k + n → (ev.plant.chan q).unit = .unused) (hk : k + n ≤ 64) :
    ∃ c, beginSteps env n k ev = testDone env (ev.withTest fun t => { t with current := c }) ∧
      c.map Fin.val = if n = 0 then ev.plant.test.current.map Fin.val else some (k + n - 1) := by
  induction n generalizing k ev with
  | zero => exact ⟨ev.plant.test.current, rfl, rfl⟩
  | succ n ih =>
    obtain ⟨q, rfl⟩ : ∃ q : Point, q.val = k := ⟨⟨k, by omega⟩, rfl⟩
    rw [beginSteps_passes (stepBegin_unused (h q (Nat.le_refl _) (by omega)))]
    obtain ⟨c, e, current⟩ := ih (ev := ev.atPoint q) (q.val + 1) (fun x h1 h2 => h x (by omega) (by omega)) (by omega)
    refine ⟨c, e, current.trans ?_⟩
    rw [if_neg (Nat.succ_ne_zero n), Nat.add_right_comm, Nat.add_assoc]
    split
    · rename_i hn; subst hn; rfl
    · rfl

/-! ## The beginning of a test (R122) -/

/-- The record of a test as it begins. -/
def TestRecord.begun (first count : Nat) : TestRecord where
  state := .running
  first := first
  count := count
  current := none
  step := none
  home := none
  results := []
  failed := 0

/-- The event with a test begun and every point resolved in TEST, before the first step. -/
def Ev.testBegun (env : Env) (first count : Nat) (ev : Ev) : Ev :=
  resolveAll env false ((ev.withTest fun _ => .begun first count).setMode .test)

theorem beginTest_eq (env : Env) (first count : Nat) (ev : Ev) :
    beginTest first count env ev = beginSteps env count first (ev.testBegun env first count) := rfl

section Begun
variable (env : Env) (first count : Nat) (ev : Ev)

theorem testBegun_test : (ev.testBegun env first count).plant.test = .begun first count := by
  rw [Ev.testBegun, resolveAll_test]; rfl

theorem testBegun_mode : (ev.testBegun env first count).plant.mode = .test := by
  rw [Ev.testBegun, resolveAll_mode]; rfl

theorem testBegun_entriesKept : ev.plant.EntriesKept (ev.testBegun env first count).plant :=
  entriesKept_frame.trans (withTest_frame entriesKept_frame _ ev)
    (entriesKept_frame.trans (setMode_frame entriesKept_frame .test _) (resolveAll_frame entriesKept_frame env false _))

theorem beginTest_entriesKept : ev.plant.EntriesKept (beginTest first count env ev).plant := by
  rw [beginTest_eq]
  exact entriesKept_frame.trans (testBegun_entriesKept env first count ev)
    (beginSteps_frame entriesKept_frame env count first _)

end Begun

/-- A damper that stands short of OPEN does so when every point has been resolved. -/
theorem testBegun_quiet {env : Env} {ev : Ev} {p : Point} (first count : Nat) (h : ev.Quiet p)
    (ho : (ev.plant.chan p).override = .auto) (ht : (env.store.point p).feedback = .timed) :
    (ev.testBegun env first count).Quiet p := by
  have begun : ((ev.withTest fun _ => .begun first count).setMode .test).Quiet p := h.congr rfl rfl
  unfold Ev.testBegun
  exact resolveAll_quiet ht begun ho false

theorem Equipment.kind_eq_unused {u : Equipment} : u.kind = .unused ↔ u = .unused := by
  cases u <;> simp [Equipment.kind]

/-- A range of UNUSED points: the test is done in its beginning. -/
theorem beginTest_of_unused {env : Env} {first count : Nat} {ev : Ev} (hc : count ≠ 0) (hk : first + count ≤ 64)
    (h : ∀ q : Point, first ≤ q.val → q.val < first + count → (ev.plant.chan q).unit = .unused) :
    (beginTest first count env ev).plant.mode = .normal ∧
      ∃ c : Option Point, c.map Fin.val = some (first + count - 1) ∧
        (beginTest first count env ev).plant.test =
          { TestRecord.begun first count with state := .done, current := c } := by
  obtain ⟨c, e, current⟩ := beginSteps_of_unused (env := env) count first (ev := ev.testBegun env first count)
    (fun q h1 h2 => by
      obtain ⟨-, -, -, -, kind⟩ := testBegun_entriesKept env first count ev q
      rw [h q h1 h2] at kind
      exact Equipment.kind_eq_unused.mp kind) hk
  rw [beginTest_eq, e]
  rw [if_neg hc] at current
  refine ⟨resolveAll_mode .., c, current, ?_⟩
  rw [testDone_test, Ev.withTest_test, testBegun_test]
  rfl

/-- A first point that is a TIMED damper without a fault, short of OPEN and with the normal demand CLOSE: its step waits
for OPEN. -/
theorem beginTest_awaiting {env : Env} {ev : Ev} {p : Point} (count : Nat) (h : ev.Quiet p)
    (hk : (env.store.point p).kind = .damper) (ho : (ev.plant.chan p).override = .auto)
    (ht : (env.store.point p).feedback = .timed) (hn : (ev.plant.chan p).normal = .toClose) :
    let t := beginTest p.val (count + 1) env ev
    t.plant.AwaitsOpen p ∧ t.Quiet p ∧
      t.plant.test =
        { TestRecord.begun p.val (count + 1) with
          current := some p
          step := some .damperOut
          home := some .toClose } ∧
      (t.plant.chan p).testDemand = some .toOpen ∧
      (t.plant.chan p).resolved = some { action := .toOpen, source := .test, fireZone := none } := by
  have quiet := testBegun_quiet (env := env) p.val (count + 1) h ho ht
  have mode := testBegun_mode env p.val (count + 1) ev
  have test := testBegun_test env p.val (count + 1) ev
  obtain ⟨-, -, override, normal, -⟩ := testBegun_entriesKept env p.val (count + 1) ev p
  rw [beginTest_eq]
  generalize ev.testBegun env p.val (count + 1) = x at quiet mode test override normal
  have auto := override.trans ho
  obtain ⟨d, hd, -, fault⟩ := quiet.record
  have begins : stepBegin (env.store.point p) (x.plant.chan p) = .damper .toClose := by
    rw [stepBegin_damper (Plant.damper?_eq_some.mp hd) auto, if_pos fault, normal, hn, Action.inForm_damper hk]
  rw [beginSteps_damper begins]
  let y : Ev := (x.atPoint p).withTest fun t => { t with step := some .damperOut, home := some .toClose }
  have record : (setTestDemand env p (some .toOpen) y).plant.test = { TestRecord.begun p.val (count + 1) with
      current := some p, step := some .damperOut, home := some .toClose } := by
    rw [setTestDemand_test, ← test]
    rfl
  refine ⟨⟨(setTestDemand_mode ..).trans mode, ?_, ?_, ?_⟩, ?_, record, ?_, ?_⟩
  · exact congrArg TestRecord.current record
  · exact congrArg TestRecord.step record
  · exact congrArg TestRecord.home record
  · have kept : y.Quiet p := quiet.congr rfl rfl
    exact setTestDemand_quiet ht kept auto _
  · exact (setTestDemand_testDemand ..).trans (if_pos rfl)
  · have used : env.store.kind p ≠ .unused := by rw [Store.kind, hk]; decide
    refine (setTestDemand_resolved (ev := y) .toOpen mode used auto).trans ?_
    rw [Action.inForm_damper hk]

/-! ## The order (R163) -/

/-- Settles O40: the ranges come before the mode; a step that waits for OPEN does so to the end of the event, since no
report of it is of the damper's proof (`beginTest_awaiting`, `finishEvent_awaiting`), and a test that is done in its
beginning stays so (`beginTest_of_unused`). -/
theorem ptstBegins : Obligations.PtstBegins := by
  intro s b1 b2 b3 h o n1 n2
  let order : Order := ⟨OrderKind.ptst.code, b1, b2, b3⟩
  have run : runOrder .ptst .b order (s.taking .b order) =
      if 63 < n1 ∨ n2 = 0 ∨ 64 < n2 ∨ 64 < n1 + n2 then refuse .range order (s.taking .b order)
      else if s.plant.mode ≠ .normal then refuse .mode order (s.taking .b order)
      else done order ((s.taking .b order).runEvent (beginTest n1 n2)) := rfl
  refine ⟨fun bad => exec_refused (k := .ptst) h rfl (run.trans (if_pos bad)), fun h1 h2 h12 => ?_⟩
  rw [if_neg (by omega)] at run
  refine ⟨fun hm => exec_refused (k := .ptst) h rfl (run.trans (if_pos hm)), fun hm _ => ?_⟩
  rw [if_neg (not_not.mpr hm)] at run
  obtain ⟨t, e, answered, outside, plant⟩ := exec_eventAnswered (k := .ptst) h rfl run
  have entries : s.plant.EntriesKept t.plant := by
    rw [plant]
    exact runEvent_frame entriesKept_frame _ s (beginTest_entriesKept s.env n1 n2 (.start s.plant))
  refine ⟨fun p d hp hk hd hf hpos _ ho _ ht _ hn _ => ⟨t, e, answered, outside, ?_⟩,
    fun hu => ⟨t, e, answered, outside, ?_⟩⟩
  · obtain ⟨count, hc⟩ : ∃ count, n2 = count + 1 := ⟨n2 - 1, by omega⟩
    rw [hc, ← hp] at plant ⊢
    obtain ⟨awaits, quiet, record, demand, resolved⟩ :=
      beginTest_awaiting (env := s.env) (ev := .start s.plant) count ⟨⟨d, hd, by rw [hpos]; decide, hf⟩, by simp⟩
        hk ho ht hn
    obtain ⟨mode, test, side⟩ := finishEvent_awaiting (env := s.env) awaits quiet
    rw [← State.runEvent_plant, ← plant] at mode test side
    exact ⟨mode, test.trans record, (congrArg Channel.testDemand side).trans demand,
      (congrArg Channel.resolved side).trans resolved, entries⟩
  · obtain ⟨mode, c, current, record⟩ :=
      beginTest_of_unused (env := s.env) (ev := .start s.plant) (Nat.pos_iff_ne_zero.mp h2) h12 hu
    have stopped : (beginTest n1 n2 s.env (.start s.plant)).plant.test.state ≠ .running := by
      rw [record]
      exact fun x => by cases x
    obtain ⟨still, -⟩ := State.runEvent_keeps (P := Plant.Steady .normal) (fun _ _ u => u.keeps_steady (by decide))
      ⟨mode, stopped⟩
    obtain ⟨same, -⟩ := State.runEvent_sameTest stopped
    rw [record] at same
    rw [← plant] at still same
    rw [same]
    exact ⟨still, rfl, rfl, rfl, current, rfl, rfl, rfl, entries⟩

end Sys2Proof.Machine
end

section
/-! SUPPORT and the statement about the progress of a proof test. -/

namespace Sys2Proof.Machine

/-! ## The ends of a damper and their actions -/

/-- The action that drives a damper to an end. -/
def DamperEnd.action : DamperEnd → Action
  | .openEnd => .toOpen
  | .closedEnd => .toClose

theorem DamperEnd.damperEnd_action (e : DamperEnd) : e.action.damperEnd = e := by cases e <;> rfl

theorem DamperEnd.opposite_action (e : DamperEnd) : e.action.opposite = e.other.action := by cases e <;> rfl

/-- An action of a damper is in form as it is (Table 2-2). -/
theorem DamperEnd.inForm_action {c : PointCfg} (h : c.kind = .damper) (e : DamperEnd) :
    e.action.inForm c = e.action := by
  rw [Action.inForm_damper h]
  cases e <;> rfl

/-! ## What a step begins with (R123, R125, R128, R129) -/

section Begins
variable {env : Env} {n : Nat} {p : Point} {ev : Ev}

/-- A step that ends at its beginning: its entry, and no other if the point is the last (R122). -/
theorem beginSteps_gives {o : TestOutcome} (h : stepBegin (env.store.point p) (ev.plant.chan p) = .skip (some o)) :
    ∃ more, (beginSteps env (n + 1) p.val ev).plant.test.results =
        ev.plant.test.results ++ { point := p, outcome := o } :: more ∧ (n = 0 → more = []) := by
  let x : Ev := (ev.atPoint p).withTest (·.add p o)
  have entry : x.plant.test.results = ev.plant.test.results ++ [{ point := p, outcome := o }] := rfl
  rw [beginSteps_skips h]
  cases n with
  | zero => exact ⟨[], congrArg TestRecord.results (testDone_test env x), fun _ => rfl⟩
  | succ n =>
    obtain ⟨⟨more, added⟩, -⟩ := beginSteps_stepsFrom (env := env) (ev := x) (n + 1) (p.val + 1)
    refine ⟨more, ?_, fun e => absurd e (Nat.succ_ne_zero n)⟩
    rw [added.results, entry, List.append_assoc]
    rfl

/-- A step that waits for a report: its record, its test demand, and the demand that is handed. -/
theorem atPoint_waits (hm : ev.plant.mode = .test) (hk : env.store.kind p ≠ .unused)
    (ho : (ev.plant.chan p).override = .auto) (x : TestStep) (home asked : Action) :
    let t := (setTestDemand env p (some asked)
      ((ev.atPoint p).withTest fun t => { t with step := some x, home := some home })).plant
    t.test = { ev.plant.test with current := some p, step := some x, home := some home } ∧
      (t.chan p).testDemand = some asked ∧
      (t.chan p).resolved =
        some { action := asked.inForm (env.store.point p), source := .test, fireZone := none } :=
  ⟨setTestDemand_test .., (setTestDemand_testDemand ..).trans (if_pos rfl),
    setTestDemand_resolved (ev := (ev.atPoint p).withTest fun t => { t with step := some x, home := some home }) asked
      hm hk ho⟩

/-- A damper's step begins away from its home action (R125). -/
theorem beginSteps_damperOut (hm : ev.plant.mode = .test) (hk : (env.store.point p).kind = .damper) {d : Damper}
    (hd : (ev.plant.chan p).unit = .damper d) (hf : d.fault = .none) (ho : (ev.plant.chan p).override = .auto)
    {e : DamperEnd} (hn : (ev.plant.chan p).normal.inForm (env.store.point p) = e.action) :
    let t := (beginSteps env (n + 1) p.val ev).plant
    t.test = { ev.plant.test with current := some p, step := some .damperOut, home := some e.action } ∧
      (t.chan p).testDemand = some e.other.action ∧
      (t.chan p).resolved = some { action := e.other.action, source := .test, fireZone := none } := by
  have used : env.store.kind p ≠ .unused := by rw [Store.kind, hk]; decide
  have waits := atPoint_waits hm used ho .damperOut e.action e.other.action
  rw [e.other.inForm_action hk] at waits
  rw [beginSteps_damper ((stepBegin_damper hd ho).trans (if_pos hf)), hn, e.opposite_action]
  exact waits

/-- The step of a fan whose home action is STOP begins with RUN at nOVS (R129). -/
theorem beginSteps_fanStart (hm : ev.plant.mode = .test) (hk : (env.store.point p).kind = .fan) {f : Fan}
    (hu : (ev.plant.chan p).unit = .fan f) (hf : f.state ≠ .fault) (ho : (ev.plant.chan p).override = .auto)
    (hn : (ev.plant.chan p).normal.inForm (env.store.point p) = .stop) :
    let t := (beginSteps env (n + 1) p.val ev).plant
    let c := env.store.point p
    t.test = { ev.plant.test with current := some p, step := some .fanStart, home := some .stop } ∧
      (t.chan p).testDemand = some (.run c.nOVS) ∧
      (t.chan p).resolved = some { action := .run (max c.nOVS c.nMIN), source := .test, fireZone := none } := by
  have used : env.store.kind p ≠ .unused := by rw [Store.kind, hk]; decide
  have waits := atPoint_waits hm used ho .fanStart .stop (.run (env.store.point p).nOVS)
  rw [Action.inForm_fan hk] at waits
  rw [beginSteps_fan (stepBegin_fan_stop hu ho hf hn)]
  exact waits

end Begins

/-! ## How a step ends (R132) -/

/-- Behind the last point of the range the test is done. -/
theorem endStep_last {env : Env} {ev : Ev} {p : Point} (o : TestOutcome)
    (h : ev.plant.test.first + ev.plant.test.count = p.val + 1) :
    endStep env p o ev = testDone env (ev.stepEnded env p o) := by
  have none_left : ev.plant.test.remaining p = 0 := by rw [TestRecord.remaining, h, Nat.sub_self]
  rw [endStep_eq, none_left]
  rfl

/-- A test that is done: NORMAL, and every point under no override at its normal demand. -/
theorem testDone_resolved {env : Env} {ev : Ev} {q : Point} (hk : env.store.kind q ≠ .unused)
    (ho : (ev.plant.chan q).override = .auto) :
    ((testDone env ev).plant.chan q).resolved =
      some { action := (ev.plant.chan q).normal.inForm (env.store.point q), source := .normal, fireZone := none } := by
  have holds : (testDone env ev).plant.HoldsDemand env q := resolveAll_holdsDemand hk false _
  have mode : (testDone env ev).plant.mode = .normal := resolveAll_mode ..
  obtain ⟨-, -, override, normal, -⟩ := testDone_frame entriesKept_frame env ev q
  rw [Plant.HoldsDemand, mode, resolution_of_auto _ (override.trans ho)] at holds
  rw [holds, ← normal]
  rfl

/-- What the end of the last step leaves (R132). -/
theorem endStep_last_test {env : Env} {ev : Ev} {p : Point} (o : TestOutcome)
    (h : ev.plant.test.first + ev.plant.test.count = p.val + 1) :
    (endStep env p o ev).plant.test = { (ev.plant.test.add p o).noStep with state := .done } := by
  rw [endStep_last o h, testDone_test, stepEnded_test]
  rfl

theorem endStep_last_resolved {env : Env} {ev : Ev} {p q : Point} (o : TestOutcome)
    (h : ev.plant.test.first + ev.plant.test.count = p.val + 1) (hk : env.store.kind q ≠ .unused)
    (ho : (ev.plant.chan q).override = .auto) :
    ((endStep env p o ev).plant.chan q).resolved =
      some { action := (ev.plant.chan q).normal.inForm (env.store.point q), source := .normal, fireZone := none } := by
  have entries : ((ev.stepEnded env p o).plant.chan q).override = (ev.plant.chan q).override ∧
      ((ev.stepEnded env p o).plant.chan q).normal = (ev.plant.chan q).normal := setTestDemand_entries ..
  obtain ⟨override, normal⟩ := entries
  rw [endStep_last o h, testDone_resolved hk (override.trans ho), normal]

/-! ## What ends or moves a step (R126, R127, R130, R131) -/

section Reports
variable {env : Env} {ev : Ev} {p : Point}

theorem takeReport_damper (hu : ev.underTest p = true) (pos : Option DamperPos) (x : DamperFault) :
    takeReport env ev (.damper p pos x) = takeDamperReport env p pos x ev := if_pos hu

/-- In TEST no report of a fan completes a restore. -/
theorem takeReport_fan (hm : ev.plant.mode = .test) (hu : ev.underTest p = true) (x : FanState) (y : FanFault) :
    takeReport env ev (.fan p x y) = takeFanReport env p x y ev := by
  have check : checkRestore env ev = ev := by simp [checkRestore, hm]
  simp only [takeReport, check, hu, if_true]

/-- A fault ends a damper's step (R127). -/
theorem takeDamperReport_fault {x : DamperFault} (hx : x ≠ .none) {home : Action}
    (hh : ev.plant.test.home = some home)
    (hs : ev.plant.test.step = some .damperOut ∨ ev.plant.test.step = some .damperBack) (pos : Option DamperPos) :
    takeDamperReport env p pos x ev = endStep env p x.outcome ev := by
  rcases hs with hs | hs <;> simp only [takeDamperReport, hs, hh, ne_eq, hx, not_false_eq_true, if_true]

/-- The proof away from home turns the damper back (R126). -/
theorem takeDamperReport_out {home : DamperEnd} (hh : ev.plant.test.home = some home.action)
    (hs : ev.plant.test.step = some .damperOut) :
    takeDamperReport env p (some home.other.proven) .none ev =
      setTestDemand env p (some home.action) (ev.withTest fun t => { t with step := some .damperBack }) := by
  simp only [takeDamperReport, hs, hh, DamperEnd.opposite_action, DamperEnd.damperEnd_action, ne_eq,
    not_true_eq_false, if_false, if_true]

/-- The proof at home is a PASS (R126). -/
theorem takeDamperReport_back {home : DamperEnd} (hh : ev.plant.test.home = some home.action)
    (hs : ev.plant.test.step = some .damperBack) :
    takeDamperReport env p (some home.proven) .none ev = endStep env p .pass ev := by
  simp only [takeDamperReport, hs, hh, DamperEnd.damperEnd_action, ne_eq, not_true_eq_false, if_false, if_true]

/-- A fan under test that comes to RUNNING is stopped (R130). -/
theorem takeFanReport_running (hs : ev.plant.test.step = some .fanStart) (y : FanFault) :
    takeFanReport env p .running y ev =
      setTestDemand env p (some .stop) (ev.withTest fun t => { t with step := some .fanStop }) := by
  simp only [takeFanReport, hs]

/-- FAULT ends its step by the fault kind (R130). -/
theorem takeFanReport_fault (hs : ev.plant.test.step = some .fanStart) (y : FanFault) :
    takeFanReport env p .fault y ev = endStep env p (if y = .drive then .failDrive else .failStart) ev := by
  simp only [takeFanReport, hs]

/-- IDLE after its stop is a PASS (R130). -/
theorem takeFanReport_idle (hs : ev.plant.test.step = some .fanStop) (y : FanFault) :
    takeFanReport env p .idle y ev = endStep env p .pass ev := by
  simp only [takeFanReport, hs, if_true]

/-- A step that goes on: its record, its test demand, and the demand that is handed. -/
theorem step_moves (hm : ev.plant.mode = .test) (x : TestStep) (asked : Action) :
    let t := (setTestDemand env p (some asked) (ev.withTest fun t => { t with step := some x })).plant
    t.test = { ev.plant.test with step := some x } ∧ (t.chan p).testDemand = some asked ∧
      (env.store.kind p ≠ .unused → (ev.plant.chan p).override = .auto →
        (t.chan p).resolved =
          some { action := asked.inForm (env.store.point p), source := .test, fireZone := none }) :=
  ⟨setTestDemand_test .., (setTestDemand_testDemand ..).trans (if_pos rfl),
    setTestDemand_resolved (ev := ev.withTest fun t => { t with step := some x }) asked hm⟩

/-- A report of a point that is not under test brings nothing in TEST (R124). -/
theorem takeReport_untested (hm : ev.plant.mode = .test) (hu : ev.underTest p = false) (pos : Option DamperPos)
    (x : DamperFault) (st : FanState) (y : FanFault) :
    takeReport env ev (.damper p pos x) = ev ∧ takeReport env ev (.fan p st y) = ev ∧
      takeReport env ev (.override p) = ev := by
  have check : checkRestore env ev = ev := by simp [checkRestore, hm]
  simp [takeReport, check, hu]

end Reports

/-! ## An arrival during a test (R134) -/

/-- The report of a list that is not empty aborts a test, and the test stays so to the end of its event. -/
theorem runEvent_listReport_aborts {s : State} {p : Point} (hl : s.alarms ≠ []) (hm : s.plant.mode = .test)
    (hc : s.plant.test.current = some p) : s.plant.AbortedAt p (s.runEvent listReport).plant := by
  have report : (listReport s.env (.start s.plant)).plant =
      (resolveAll s.env false ((abortTest (.start s.plant)).setMode .fire)).plant := by
    have e : modeAfterReport s.plant.mode s.env.alarms.isEmpty = .fire :=
      (modeAfterReport_fire_iff ..).mpr hl
    rw [listReport_plant, Ev.atReport, Ev.start_plant, e, if_pos ⟨hm, rfl⟩]
  have aborted : s.plant.AbortedAt p (listReport s.env (.start s.plant)).plant := by
    rw [report]
    exact (abortTest_abortedAt (ev := .start s.plant) hc).congr (setMode_resolveAll_sameTest s.env .fire _)
  exact aborted.congr (State.runEvent_sameTest aborted.not_running)

/-- A ZALM of a zone that the list does not hold is one report of the list with its entry (R13, R17). -/
theorem exec_zalm_arrives {s : State} {z : Zone} (b2 b3 : Byte) (h : s.PortAtRest .a)
    (hz : (s.zone z).isolated = false) (hl : z ∉ s.alarms.map AlarmEntry.zone) :
    ∃ t u : State, exec (.zalm .a (byte z.val) b2 b3) s = .next t ∧ t.plant = (u.runEvent listReport).plant ∧
      u.plant = s.plant ∧ u.store = s.store ∧
      u.alarms = s.alarms ++ [{ zone := z, origin := .port, latched := true }] := by
  let o : Order := ⟨OrderKind.zalm.code, byte z.val, b2, b3⟩
  let u : State := { s.taking .a o with alarms := portArrival z s.alarms }
  have list : portArrival z s.alarms = s.alarms ++ [{ zone := z, origin := .port, latched := true }] := by
    rw [portArrival_eq, if_neg hl]
  have run : runOrder .zalm .a o (s.taking .a o) = done o (zonesFollow (s.taking .a o) u) := by
    show orderZalm .a o (s.taking .a o) = _
    unfold orderZalm
    simp only [o, zoneOf_byte, State.setPort_zone, hz, Bool.false_eq_true, if_false]
    rfl
  have changed : (s.taking .a o).alarms ≠ u.alarms := by
    show s.alarms ≠ portArrival z s.alarms
    rw [list]
    simp
  refine ⟨_, { u with ports := u.ports.markAll [] (changedZones (s.taking .a o) u) },
    exec_done (k := .zalm) h rfl run, ?_, rfl, rfl, list⟩
  rw [← zonesFollow_of_list_ne changed]
  rfl

/-- Settles O58, part by part: what a step begins with is read off the point's record (`stepBegin`), a step's end adds
its entry before those of the steps behind it (`endStep_adds`), a report is judged by the step and the home action, and
the arrival's report aborts the test before it resolves every point in FIRE
(`runEvent_listReport_aborts`). -/
theorem proofTestProgress : Obligations.ProofTestProgress := by
  refine ⟨fun env ev n p hm => ?_, fun env ev p o => ?_, fun env ev p hm => ?_,
    fun s z p b2 b3 h hs hr hc hz => ?_⟩
  · intro c ch begun t gives waits
    refine ⟨fun hu => beginSteps_passes (stepBegin_unused hu),
      fun hu ho => beginSteps_gives (stepBegin_override hu ho), fun d hd hk ho => ⟨fun fault => ?_, fun fault => ?_⟩,
      fun f hf hk ho => ⟨fun fault => ?_, fun fault => ⟨fun v hn => ?_, ?_⟩⟩⟩
    · exact beginSteps_gives ((stepBegin_damper hd ho).trans (if_neg fault))
    · exact ⟨beginSteps_damperOut (e := .openEnd) hm hk hd fault ho,
        beginSteps_damperOut (e := .closedEnd) hm hk hd fault ho⟩
    · exact beginSteps_gives (stepBegin_fan_fault hf ho fault)
    · exact beginSteps_gives (stepBegin_fan_run hf ho fault hn)
    · exact beginSteps_fanStart hm hk hf fault ho
  · intro t
    obtain ⟨more, results, failed⟩ := endStep_adds (env := env) (ev := ev) p o
    refine ⟨more, results, failed, (endStep_stepOver o (.inl rfl)).demand, fun last => ?_⟩
    have record : t.test = { (ev.plant.test.add p o).noStep with state := .done } := endStep_last_test o last
    have mode : t.mode = .normal := by
      show (endStep env p o ev).plant.mode = .normal
      rw [endStep_last o last]
      exact resolveAll_mode ..
    have only : ev.plant.test.results ++ [{ point := p, outcome := o }] =
        ev.plant.test.results ++ { point := p, outcome := o } :: more :=
      (congrArg TestRecord.results record).symm.trans results
    refine ⟨by simpa using only, mode, ?_, ?_, ?_, ?_, fun q hk ho => endStep_last_resolved o last hk ho⟩ <;>
      rw [record] <;> rfl
  · intro ends moves
    refine ⟨fun hu => ⟨fun home hh => ?_, fun hs => ⟨fun k => ?_, ?_, ?_⟩, fun hs k => ?_, fun hs => ?_⟩,
      takeReport_untested hm⟩
    · have hh : ev.plant.test.home = some home.action := by rw [hh]; cases home <;> rfl
      refine ⟨fun pos hs => ?_, fun hs => ?_, fun hs => ?_⟩
      · have fault (x : DamperFault) (hx : x ≠ .none) : ends (.damper p pos x) x.outcome :=
          (takeReport_damper hu pos x).trans (takeDamperReport_fault hx hh hs pos)
        exact ⟨fault .stroke (by decide), fault .conflict (by decide), fault .drift (by decide)⟩
      · have taken := (takeReport_damper (env := env) hu _ _).trans (takeDamperReport_out hh hs)
        have k := step_moves (env := env) (p := p) hm .damperBack home.action
        rw [← taken] at k
        cases home <;> exact k
      · exact (takeReport_damper hu _ _).trans (takeDamperReport_back hh hs)
    · have taken := (takeReport_fan (env := env) hm hu _ k).trans (takeFanReport_running hs k)
      have k := step_moves (env := env) (p := p) hm .fanStop .stop
      rw [← taken] at k
      exact k
    · exact (takeReport_fan hm hu _ _).trans (takeFanReport_fault hs .failStart)
    · exact (takeReport_fan hm hu _ _).trans (takeFanReport_fault hs .drive)
    · exact (takeReport_fan hm hu _ _).trans (takeFanReport_idle hs k)
    · exact if_pos (by rw [hu, Option.isSome_iff_ne_none.mpr hs]; rfl)
  · obtain ⟨hfire, htest⟩ := hs
    have mode : s.plant.mode = .test := htest.mp hr
    have empty : s.alarms = [] := by
      by_contra hl
      exact absurd (hfire.mpr hl) (by rw [mode]; decide)
    obtain ⟨t, u, run, plant, upl, ust, list⟩ := exec_zalm_arrives b2 b3 h hz (by rw [empty]; simp)
    rw [empty, List.nil_append] at list
    have ne : u.alarms ≠ [] := by rw [list]; simp
    rw [← upl] at mode hc
    obtain ⟨record, demand⟩ := runEvent_listReport_aborts ne mode hc
    rw [← plant, upl] at record
    rw [← plant] at demand
    refine ⟨t, run, ?_, record, demand, fun q hk ho => ?_⟩
    · rw [plant, State.runEvent_plant]
      exact ((finishEvent_moves _ False _ False.elim).fireSteady (listReport_fireSteady ne fun _ => mode)).1
    · obtain ⟨-, fire⟩ := runEvent_listReport_fire (s := u) ne (fun _ => mode) (p := q) (by rw [ust]; exact hk)
      rw [plant, fire (by rw [upl]; exact ho), State.env, ust, list, upl]

end Sys2Proof.Machine
end

section
/-! SUPPORT. The port records slot by slot, and the statements about one strobe, the release of SEL and the attention
line. -/

namespace Sys2Proof.Machine

/-! ## The slots of a port, one by one -/

theorem PortRec.replyWaiting_iff (r : PortRec) :
    r.replyWaiting = true ↔ ∃ k : Fin 4, r.outSlots[k].isSome = true := by
  simp [PortRec.replyWaiting, Fin.exists_fin_succ, or_assoc]

theorem PortRec.completeOrder_eq_none (r : PortRec) :
    r.completeOrder = none ↔ ∃ k : Fin 4, r.inSlots[k] = none := by
  unfold PortRec.completeOrder
  split
  · rename_i h0 h1 h2 h3
    simp [Fin.exists_fin_succ, h0, h1, h2, h3]
  · rename_i h
    simp only [true_iff]
    by_contra full
    simp only [not_exists, ← ne_eq, Option.ne_none_iff_exists'] at full
    obtain ⟨c, h0⟩ := full 0
    obtain ⟨x, h1⟩ := full 1
    obtain ⟨y, h2⟩ := full 2
    obtain ⟨z, h3⟩ := full 3
    exact h c x y z h0 h1 h2 h3

theorem PortRec.inputEmpty_iff (r : PortRec) : r.inputEmpty = true ↔ ∀ k : Fin 4, r.inSlots[k] = none := by
  simp [PortRec.inputEmpty, Fin.forall_fin_succ, and_assoc]

theorem anyMember_iff {n : Nat} (v : Vector Bool n) : anyMember v = true ↔ ∃ i : Fin n, v[i] = true := by
  simp [anyMember]

/-- A port is free exactly with no order in progress and no reply byte unread (R141). -/
theorem PortRec.free_eq_true (r : PortRec) :
    r.free = true ↔ r.inProgress = none ∧ r.replyWaiting = false := by simp [PortRec.free]

theorem PortRec.free_eq_false (r : PortRec) :
    r.free = false ↔ r.inProgress.isSome = true ∨ r.replyWaiting = true := by
  rw [← Bool.not_eq_true, PortRec.free_eq_true, not_and_or, Option.isSome_iff_ne_none, Bool.not_eq_false]

/-! ## Strobes and SEL outside device reset -/

section Strobes
variable {s : State} (hh : s.held = false) (i : PortId)
include hh

theorem exec_wrStrobeEnd (x : Byte) : exec (.wrStrobeEnd i true x) s = .next (writeByte i x s) :=
  congrArg _ (State.unlessHeld_of_not_held hh _)

theorem exec_rdStrobe : exec (.rdStrobe i true) s = .next (readByte i s) :=
  congrArg _ (State.unlessHeld_of_not_held hh _)

theorem exec_selInactive : exec (.selInactive i) s = .next (selReleased i s) :=
  congrArg _ (State.unlessHeld_of_not_held hh _)

end Strobes

/-- A strobe is ignored with SEL inactive. -/
theorem unlessHeld_strobed_unselected (g : State → State) (s : State) : s.unlessHeld (strobed false g) = s :=
  ite_self s

/-- A byte stored or read changes the port record alone, unless an order is complete at a free port (R141). -/
theorem takeIfReady_setPort_of_not_ready {i : PortId} {s : State} {r : PortRec}
    (h : r.completeOrder = none ∨ r.inProgress.isSome = true ∨ r.replyWaiting = true) :
    takeIfReady i (s.setPort i r) = s.setPort i r := by
  rcases h with incomplete | busy
  · exact takeIfReady_of_incomplete (by rwa [State.port_setPort_self])
  · exact takeIfReady_of_busy (by rwa [State.port_setPort_self, PortRec.free_eq_false])

/-- An order complete at a free port is taken (R141). -/
theorem takeIfReady_setPort_of_ready {i : PortId} {s : State} {r : PortRec} {o : Order}
    (complete : r.completeOrder = some o) (idle : r.inProgress = none) (read : r.replyWaiting = false) :
    takeIfReady i (s.setPort i r) = takeOrder i o (s.setPort i r) :=
  takeIfReady_of_free (by rwa [State.port_setPort_self])
    (by rw [State.port_setPort_self, PortRec.free_eq_true]; exact ⟨idle, read⟩)

/-- Settles O44. The byte is stored or discarded (`writeByte_eq`); an order it completes at a free port is taken. -/
theorem writeStrobeStores : Obligations.WriteStrobeStores := by
  intro s i x hh
  dsimp only
  rw [exec_wrStrobeEnd hh]
  refine ⟨congrArg _ (unlessHeld_strobed_unselected _ s), fun full => ?_, fun empty => ?_⟩
  · rw [writeByte_eq, if_pos full]
  · rw [writeByte_stored x rfl empty]
    refine ⟨fun not_ready => congrArg _ (takeIfReady_setPort_of_not_ready not_ready), fun o complete idle read => ?_⟩
    rw [takeIfReady_setPort_of_ready complete idle read, takeOrder, State.port_setPort_self, State.setPort_setPort]
    unfold PortRec.take
    rcases decodeOrder i o _ with ⟨t, _ | y⟩ <;> rfl

/-- Settles O46. The byte is driven or UNDERRUN set (`readByte_eq`); the last byte lets a waiting order be taken. -/
theorem readStrobeDrives : Obligations.ReadStrobeDrives := by
  intro s i hh
  dsimp only
  rw [exec_rdStrobe hh, readByte_eq]
  refine ⟨congrArg _ (unlessHeld_strobed_unselected _ s), fun empty => by rw [empty], fun x full => ?_⟩
  rw [full]
  exact ⟨fun not_ready => congrArg _ (takeIfReady_setPort_of_not_ready not_ready),
    fun o complete idle read => congrArg _ (takeIfReady_setPort_of_ready complete idle read)⟩

/-- Settles O45. The order is partial exactly when some slot is FULL and some slot EMPTY. -/
theorem selReleaseDiscards : Obligations.SelReleaseDiscards := by
  intro s i hh
  dsimp only
  rw [exec_selInactive hh, selReleased]
  refine ⟨fun ⟨k, full⟩ empty => ?_, fun all => ?_⟩
  · have partly : ¬((s.port i).inputEmpty || (s.port i).completeOrder.isSome) = true := by
      rw [Bool.or_eq_true, PortRec.inputEmpty_iff, Option.isSome_iff_ne_none, ne_eq, PortRec.completeOrder_eq_none]
      rintro (none_full | all_full)
      · rw [none_full k] at full; cases full
      · exact all_full empty
    rw [if_neg partly]
  · rw [if_pos]
    rw [Bool.or_eq_true, PortRec.inputEmpty_iff, Option.isSome_iff_ne_none, ne_eq, PortRec.completeOrder_eq_none]
    exact all.imp_right fun full ⟨k, empty⟩ => by have := full k; rw [empty] at this; cases this

/-- Settles O48. The two conditions of R144 by slots and members; what stands beside a waiting reply is immaterial. -/
theorem attentionLine : Obligations.AttentionLine := by
  intro s i
  rw [State.atn, PortRec.attention, Bool.and_eq_true, Bool.not_eq_true', Bool.or_eq_true, Bool.and_eq_true,
    Bool.and_eq_true, Bool.or_eq_true, PortRec.replyWaiting_iff, Option.isNone_iff_eq_none, Option.isNone_iff_eq_none,
    PortRec.completeOrder_eq_none, anyMember_iff, anyMember_iff, and_assoc]

end Sys2Proof.Machine
end

section
/-! SUPPORT. The time base: a timer after any number of counts, what stands in the list of the commands due, and the
statement about timers and the empty queue. -/

namespace Sys2Proof.Machine

/-! ## A timer after any number of counts (R150) -/

theorem Timer.repeat_tick (n k : Nat) :
    Nat.repeat Timer.tick k (.running n 0) = .running (n - k / 25000) (k % 25000) := by
  induction k with
  | zero => rfl
  | succ k ih =>
    rw [Nat.repeat, ih, Timer.tick, Config.countsPerEighth]
    split <;> congr 1 <;> omega

@[simp] theorem Timer.isOut_running (n k : Nat) : Timer.isOut (.running n k) = true ↔ n = 0 := by
  cases n <;> simp [Timer.isOut]

theorem Timer.isOut_repeat_tick_load {n k : Nat} (hn : 0 < n) (hk : k ≤ n * 25000) :
    (Nat.repeat Timer.tick k (Timer.load n)).isOut = true ↔ k = n * 25000 := by
  rw [Timer.load_pos hn, Timer.repeat_tick, Timer.isOut_running]
  omega

/-! ## The commands due -/

theorem Timer.mem_due {t : Timer} {c d : Instr} : c ∈ t.due d ↔ t.isOut = true ∧ c = d := by
  unfold Timer.due
  split <;> simp [*]

theorem Fan.atLastPhase_iff (f : Fan) :
    f.atLastPhase = true ↔ f.state.energised = true ∧ 199 ≤ f.speed.phase := by
  simp [Fan.atLastPhase, Config.periodCounts]

theorem Plant.mem_periodsEnding {pl : Plant} {p : Point} :
    p ∈ pl.periodsEnding ↔ ∃ f, pl.fan? p = some f ∧ f.state.energised = true ∧ 199 ≤ f.speed.phase := by
  unfold Plant.periodsEnding
  cases h : pl.fan? p <;> simp [allPoints, h, Fan.atLastPhase_iff]

theorem Channel.mem_due_damper {ch : Channel} {d : Damper} (h : ch.unit = .damper d) {p : Point} {b : Bool}
    {c : Instr} :
    c ∈ ch.due p b ↔
      (d.stroke.isOut = true ∧ c = .strokeTimerRunsOut p) ∨
        ∃ i, (d.filt i).timer.isOut = true ∧ c = .limitFilterTimerRunsOut p i := by
  have inputs (P : LimitInput → Prop) : (∃ i, P i) ↔ P .fba ∨ P .fbb :=
    ⟨fun ⟨i, x⟩ => by cases i; exacts [.inl x, .inr x], fun x => x.elim (⟨_, ·⟩) (⟨_, ·⟩)⟩
  rw [inputs]
  simp [Channel.due, h, Timer.mem_due, Damper.filt]

theorem Channel.mem_due_fan {ch : Channel} {f : Fan} (h : ch.unit = .fan f) {p : Point} {b : Bool} {c : Instr} :
    c ∈ ch.due p b ↔
      (f.runDown.isOut = true ∧ c = .runDownTimerRunsOut p) ∨
        (f.proofLimit.isOut = true ∧ c = .proofLimitTimerRunsOut p) ∨
        (f.fbbFilt.timer.isOut = true ∧ c = .fbbFilterTimerRunsOut p) ∨
        (f.proof.gate.isOut = true ∧ c = .gateTimerRunsOut p) ∨
        ((b = true ∧ f.atLastPhase = true) ∧ c = .periodBoundary p) := by
  simp [Channel.due, h, Timer.mem_due]

theorem StoreWrite.isOut_iff (w : StoreWrite) : w.isOut = true ↔ w.cycles = 0 := by simp [StoreWrite.isOut]

/-- The list of the commands due, block by block. -/
theorem mem_dueCommands_iff {s : State} {c : Instr} :
    c ∈ dueCommands s ↔
      (∃ z, (s.zone z).filter.timer.isOut = true ∧ c = .zoneFilterTimerRunsOut z) ∨
        (∃ p, c ∈ (s.plant.chan p).due p (s.periodEnds.contains p)) ∨
        (s.plant.sched.spacing.isOut = true ∧ c = .spacingTimerRunsOut) ∨
        (s.plant.supply.filter.timer.isOut = true ∧ c = .supfailFilterTimerRunsOut) ∨
        (s.plant.supply.settle.isOut = true ∧ c = .settleTimerRunsOut) ∨
        ((∃ w, s.write = some w ∧ w.cycles = 0) ∧ c = .storeWriteCompletes) ∨
        (s.plant.joinReports ≠ [] ∧ c = .joiningReport) := by
  simp [dueCommands, allZones, allPoints, Timer.mem_due, Option.any_eq_true, StoreWrite.isOut_iff]

/-- What is due at a channel is due. -/
theorem State.due_of_mem_chan {s : State} {p : Point} {c : Instr}
    (h : c ∈ (s.plant.chan p).due p (s.periodEnds.contains p)) : s.Due c := by
  cases hu : (s.plant.chan p).unit with
  | unused => rw [Channel.due, hu] at h; cases h
  | damper d =>
    have hd : s.plant.damper? p = some d := Plant.damper?_eq_some.mpr hu
    rcases (Channel.mem_due_damper hu).mp h with ⟨out, rfl⟩ | ⟨i, out, rfl⟩
    · exact ⟨d, hd, out⟩
    · exact ⟨d, hd, out⟩
  | fan f =>
    have hf : s.plant.fan? p = some f := Plant.fan?_eq_some.mpr hu
    rcases (Channel.mem_due_fan hu).mp h with
      ⟨out, rfl⟩ | ⟨out, rfl⟩ | ⟨out, rfl⟩ | ⟨out, rfl⟩ | ⟨⟨ended, last⟩, rfl⟩
    · exact ⟨f, hf, out⟩
    · exact ⟨f, hf, out⟩
    · exact ⟨f, hf, out⟩
    · exact ⟨f, hf, out⟩
    · exact ⟨List.contains_iff_mem.mp ended, f, hf, f.atLastPhase_iff.mp last⟩

/-- The list of the commands due holds exactly them. -/
theorem mem_dueCommands {s : State} {c : Instr} : c ∈ dueCommands s ↔ s.Due c := by
  rw [mem_dueCommands_iff]
  constructor
  · rintro (⟨z, out, rfl⟩ | ⟨p, h⟩ | ⟨out, rfl⟩ | ⟨out, rfl⟩ | ⟨out, rfl⟩ | ⟨out, rfl⟩ | ⟨waits, rfl⟩)
    · exact out
    · exact State.due_of_mem_chan h
    · exact out
    · exact out
    · exact out
    · exact out
    · exact waits
  · intro h
    cases c with
    | zoneFilterTimerRunsOut z => exact .inl ⟨z, h, rfl⟩
    | strokeTimerRunsOut p =>
      obtain ⟨d, hd, out⟩ := h
      exact .inr (.inl ⟨p, (Channel.mem_due_damper (Plant.damper?_eq_some.mp hd)).mpr (.inl ⟨out, rfl⟩)⟩)
    | limitFilterTimerRunsOut p i =>
      obtain ⟨d, hd, out⟩ := h
      exact .inr (.inl ⟨p, (Channel.mem_due_damper (Plant.damper?_eq_some.mp hd)).mpr (.inr ⟨i, out, rfl⟩)⟩)
    | runDownTimerRunsOut p =>
      obtain ⟨f, hf, out⟩ := h
      exact .inr (.inl ⟨p, (Channel.mem_due_fan (Plant.fan?_eq_some.mp hf)).mpr (by simp [out])⟩)
    | proofLimitTimerRunsOut p =>
      obtain ⟨f, hf, out⟩ := h
      exact .inr (.inl ⟨p, (Channel.mem_due_fan (Plant.fan?_eq_some.mp hf)).mpr (by simp [out])⟩)
    | fbbFilterTimerRunsOut p =>
      obtain ⟨f, hf, out⟩ := h
      exact .inr (.inl ⟨p, (Channel.mem_due_fan (Plant.fan?_eq_some.mp hf)).mpr (by simp [out])⟩)
    | gateTimerRunsOut p =>
      obtain ⟨f, hf, out⟩ := h
      exact .inr (.inl ⟨p, (Channel.mem_due_fan (Plant.fan?_eq_some.mp hf)).mpr (by simp [out])⟩)
    | periodBoundary p =>
      obtain ⟨ended, f, hf, last⟩ := h
      exact .inr (.inl ⟨p, (Channel.mem_due_fan (Plant.fan?_eq_some.mp hf)).mpr
        (by simp [f.atLastPhase_iff.mpr last, ended])⟩)
    | spacingTimerRunsOut => exact .inr (.inr (.inl ⟨h, rfl⟩))
    | supfailFilterTimerRunsOut => exact .inr (.inr (.inr (.inl ⟨h, rfl⟩)))
    | settleTimerRunsOut => exact .inr (.inr (.inr (.inr (.inl ⟨h, rfl⟩))))
    | storeWriteCompletes => exact .inr (.inr (.inr (.inr (.inr (.inl ⟨h, rfl⟩)))))
    | joiningReport => exact .inr (.inr (.inr (.inr (.inr (.inr ⟨h, rfl⟩)))))
    | _ => exact h.elim

/-! ## One count (R150) -/

/-- One count at a reference: a phase stands at 199 until its boundary is taken (R98). -/
theorem SpeedRef.tick_eq (b : Bool) (r : SpeedRef) :
    r.tick b = if b = true ∧ r.phase < 199 then { r with phase := r.phase + 1 } else r := by
  have last : r.phase + 1 < 200 ↔ r.phase < 199 := Nat.succ_lt_succ_iff
  simp [SpeedRef.tick, Config.periodCounts, last]

/-- Settles O2. A timer's state after `k` counts is closed (`Timer.repeat_tick`); on an empty queue the list of the
commands due holds exactly them (`mem_dueCommands`), and a count acts on each line and channel alone. -/
theorem timerRunsOutExactly : Obligations.TimerRunsOutExactly := by
  refine ⟨⟨Timer.load_zero, fun n k => Timer.isOut_repeat_tick_load⟩, fun s hh hp => ?_⟩
  dsimp only
  refine ⟨s.idleStep, by rw [step, hp], fun ⟨c, due⟩ => ?_, fun idle stopped => ?_, fun idle runs => ?_⟩
  · have nonempty : dueCommands s ≠ [] := List.ne_nil_of_mem (mem_dueCommands.mpr due)
    rcases s.idleStep_cases with ⟨-, held | ⟨none_due, -⟩⟩ | ⟨d, hd, -, e⟩ | ⟨none_due, -⟩
    · exact absurd held (by simp [hh])
    · exact absurd none_due nonempty
    · exact ⟨d, mem_dueCommands.mp hd, e⟩
    · exact absurd none_due nonempty
  · rcases s.idleStep_cases with ⟨e, -⟩ | ⟨d, hd, -⟩ | ⟨-, -, running, -⟩
    · exact e
    · exact absurd (mem_dueCommands.mp hd) (idle d)
    · exact absurd running (by simp [stopped])
  · have e : s.idleStep = s.countPasses := by
      rcases s.idleStep_cases with ⟨-, held | ⟨-, stopped⟩⟩ | ⟨d, hd, -⟩ | ⟨-, -, -, e⟩
      · exact absurd held (by simp [hh])
      · exact absurd stopped (by simp [runs])
      · exact absurd (mem_dueCommands.mp hd) (idle d)
      · exact e
    rw [e]
    refine ⟨s.countPasses_zone, fun p => ?_, fun p => Plant.mem_periodsEnding, rfl⟩
    rw [State.countPasses_chan, Channel.tick]
    cases (s.plant.chan p).unit with
    | unused => rfl
    | damper d => rfl
    | fan f => dsimp only; rw [Fan.tick, SpeedRef.tick_eq]; rfl

end Sys2Proof.Machine
end

section
/-! SUPPORT. The orders' answers as the ports see them: an answer with a reply leaves every port's slots and the store
write as they were, and an answer without one is an accepted store write at the B-port. -/

namespace Sys2Proof.Machine

/-- Every port is as it was but for its change sets, and so are the holding of the machine and whether a store write is
in progress. -/
structure State.SlotsKept (s t : State) : Prop where
  port : ∀ i, t.port i = { s.port i with points := (t.port i).points, zones := (t.port i).zones }
  held : t.held = s.held
  write : t.write.isSome = s.write.isSome

theorem State.SlotsKept.refl (s : State) : s.SlotsKept s := ⟨fun _ => rfl, rfl, rfl⟩

theorem State.SlotsKept.trans {s t u : State} (h : s.SlotsKept t) (k : t.SlotsKept u) : s.SlotsKept u where
  port i := by rw [k.port i, h.port i]
  held := k.held.trans h.held
  write := k.write.trans h.write

/-- Markings keep the slots. -/
theorem State.SlotsKept.of_marked {s t : State} (ports : s.PortsMarked t) (held : t.held = s.held)
    (write : t.write.isSome = s.write.isSome) : s.SlotsKept t := ⟨fun i => (ports i).1, held, write⟩

theorem State.SlotsKept.of_ports_eq {s t : State} (ports : t.ports = s.ports) (held : t.held = s.held)
    (write : t.write.isSome = s.write.isSome) : s.SlotsKept t := .of_marked (State.portsMarked_of_eq ports) held write

theorem runEvent_slotsKept (g : Env → Ev → Ev) (s : State) : s.SlotsKept (s.runEvent g) :=
  .of_marked (State.runEvent_portsMarked g s) rfl rfl

/-- The end of an event at the zones keeps the slots of the machine `r` if its change does. -/
theorem zonesFollow_slotsKept {r t : State} (s : State) (h : r.SlotsKept t) : r.SlotsKept (zonesFollow s t) :=
  h.trans (.of_marked (zonesFollow_portsMarked s t) (zonesFollow_held s t) (by rw [zonesFollow_write]))

theorem listBecomes_slotsKept (l : List AlarmEntry) (s : State) : s.SlotsKept (listBecomes l s) :=
  zonesFollow_slotsKept s (.of_ports_eq rfl rfl rfl)

/-- A port's change sets may lose or gain members. -/
theorem setPort_slotsKept (s : State) (i : PortId) (ps : Vector Bool 64) (zs : Vector Bool 32) :
    s.SlotsKept (s.setPort i { s.port i with points := ps, zones := zs }) where
  port j := by
    by_cases e : j = i
    · subst e; simp only [State.port_setPort_self]
    · rw [State.port_setPort_ne _ _ e]
  held := rfl
  write := rfl

/-! ## Answers -/

/-- The answer has a reply and keeps the slots. -/
structure Answer.Replies (s : State) (a : Answer) : Prop where
  reply : a.2.isSome = true
  kept : s.SlotsKept a.1

/-- A refusal and a result of a query change nothing. -/
theorem refuse_replies (c : ReplyCode) (o : Order) (s : State) : Answer.Replies s (refuse c o s) := ⟨rfl, .refl s⟩
theorem result_replies (x y z : Byte) (s : State) : Answer.Replies s (result x y z s) := ⟨rfl, .refl s⟩
theorem done_replies {s t : State} (o : Order) (h : s.SlotsKept t) : Answer.Replies s (done o t) := ⟨rfl, h⟩

section Orders
variable (i : PortId) (o : Order) (s : State)

theorem orderQsys_replies : Answer.Replies s (orderQsys i o s) := by
  unfold orderQsys
  split
  · exact result_replies ..
  · exact result_replies ..
  · exact result_replies ..
  · exact refuse_replies ..

theorem orderQalm_replies : Answer.Replies s (orderQalm i o s) := by
  unfold orderQalm
  split
  · exact refuse_replies ..
  · split <;> exact result_replies ..

theorem orderQzon_replies : Answer.Replies s (orderQzon i o s) := by
  unfold orderQzon
  split
  · exact refuse_replies ..
  · exact result_replies ..

theorem pointPage_replies (c : PointCfg) (n : Nat) (ch : Channel) :
    Answer.Replies s (pointPage0 c ch s) ∧ Answer.Replies s (pointPage1 ch s) ∧
      Answer.Replies s (pointPage2 n ch s) := by
  refine ⟨?_, ?_, ?_⟩
  · unfold pointPage0; dsimp only; split <;> exact result_replies ..
  · unfold pointPage1; split <;> exact result_replies ..
  · unfold pointPage2; split <;> exact result_replies ..

theorem orderQpnt_replies : Answer.Replies s (orderQpnt i o s) := by
  unfold orderQpnt
  split
  · exact refuse_replies ..
  · rename_i p _
    obtain ⟨page0, page1, page2⟩ := pointPage_replies s (s.store.point p) o.b3.toNat (s.plant.chan p)
    split
    · exact page0
    · exact page1
    · split
      · exact refuse_replies ..
      · exact page2
    · exact refuse_replies ..

theorem orderNxch_replies : Answer.Replies s (orderNxch i o s) := by
  unfold orderNxch
  dsimp only
  split
  · exact ⟨rfl, setPort_slotsKept ..⟩
  · exact ⟨rfl, setPort_slotsKept ..⟩
  · exact refuse_replies ..

theorem orderZalm_replies : Answer.Replies s (orderZalm i o s) := by
  unfold orderZalm
  split
  · exact refuse_replies ..
  · split
    · exact refuse_replies ..
    · exact done_replies o (listBecomes_slotsKept ..)

theorem orderFzon_replies : Answer.Replies s (orderFzon i o s) := by
  unfold orderFzon
  split
  · exact refuse_replies ..
  · split
    · exact refuse_replies ..
    · exact done_replies o (listBecomes_slotsKept ..)

theorem orderArst_replies : Answer.Replies s (orderArst i o s) := by
  have marked : s.SlotsKept { s with ports := s.ports.markAll [] (removedByReset s) } :=
    .of_marked (fun j => by
      rw [State.port, State.port, Ports.get_markAll]; exact PortRec.markAll_marked ..) rfl rfl
  exact done_replies o (marked.trans (listBecomes_slotsKept ..))

theorem orderZiso_replies : Answer.Replies s (orderZiso i o s) := by
  unfold orderZiso
  split
  · exact refuse_replies ..
  · split
    · exact refuse_replies ..
    · exact done_replies o (zonesFollow_slotsKept s (.of_ports_eq rfl rfl rfl))

theorem orderZrin_replies : Answer.Replies s (orderZrin i o s) := by
  unfold orderZrin
  split
  · exact refuse_replies ..
  · split
    · exact done_replies o (zonesFollow_slotsKept s (.of_ports_eq rfl rfl rfl))
    · exact refuse_replies ..

theorem orderOvrd_replies : Answer.Replies s (orderOvrd i o s) := by
  unfold orderOvrd
  split
  · split
    · exact refuse_replies ..
    · split
      · exact done_replies o (.refl s)
      · exact done_replies o (runEvent_slotsKept ..)
  · exact refuse_replies ..

theorem orderEqrs_replies : Answer.Replies s (orderEqrs i o s) := by
  unfold orderEqrs
  split
  · exact refuse_replies ..
  · split
    · exact refuse_replies ..
    · split
      · exact refuse_replies ..
      · exact done_replies o (runEvent_slotsKept ..)
    · split
      · exact done_replies o (runEvent_slotsKept ..)
      · exact refuse_replies ..

theorem orderNdem_replies : Answer.Replies s (orderNdem i o s) := by
  unfold orderNdem
  split
  · split
    · exact refuse_replies ..
    · split
      · exact done_replies o (.refl s)
      · exact done_replies o (runEvent_slotsKept ..)
  · exact refuse_replies ..

theorem orderPtst_replies : Answer.Replies s (orderPtst i o s) := by
  unfold orderPtst
  dsimp only
  split
  · exact refuse_replies ..
  · split
    · exact refuse_replies ..
    · exact done_replies o (runEvent_slotsKept ..)

theorem orderPtrd_replies : Answer.Replies s (orderPtrd i o s) := by
  unfold orderPtrd
  dsimp only
  split
  · exact refuse_replies ..
  · split <;> exact result_replies ..

/-- An order that one condition of the machine refuses, and that else runs an event. -/
theorem ite_event_replies (p : Prop) [Decidable p] (c : ReplyCode) (g : Env → Ev → Ev) :
    Answer.Replies s (if p then done o (s.runEvent g) else refuse c o s) := by
  split
  · exact done_replies o (runEvent_slotsKept ..)
  · exact refuse_replies ..

theorem orderRpcf_replies : Answer.Replies s (orderRpcf i o s) := by
  unfold orderRpcf
  split
  · exact refuse_replies ..
  · split
    · exact result_replies ..
    · exact refuse_replies ..

theorem orderRzcf_replies : Answer.Replies s (orderRzcf i o s) := by
  unfold orderRzcf
  split
  · exact refuse_replies ..
  · split
    · exact result_replies ..
    · exact refuse_replies ..

theorem orderRscn_replies : Answer.Replies s (orderRscn i o s) := by
  unfold orderRscn
  split
  · exact result_replies ..
  · exact refuse_replies ..

theorem orderRdcf_replies : Answer.Replies s (orderRdcf i o s) := by
  unfold orderRdcf
  split
  · exact result_replies ..
  · exact refuse_replies ..

/-- The answer replies and keeps the slots, or it is an accepted store write, which does not reply yet. -/
def Answer.RepliesOrWrites (a : Answer) : Prop := Answer.Replies s a ∨ ∃ w, a = ({ s with write := some w }, none)

theorem acceptWrite_repliesOrWrites (tgt : WriteTarget) : Answer.RepliesOrWrites s (acceptWrite tgt o s) := by
  unfold acceptWrite
  split
  · exact .inr ⟨_, rfl⟩
  · exact .inl (refuse_replies ..)

theorem orderWpcf_repliesOrWrites : Answer.RepliesOrWrites s (orderWpcf i o s) := by
  unfold orderWpcf
  split
  · exact .inl (refuse_replies ..)
  · split
    · exact .inl (refuse_replies ..)
    · exact acceptWrite_repliesOrWrites ..

theorem orderWzcf_repliesOrWrites : Answer.RepliesOrWrites s (orderWzcf i o s) := by
  unfold orderWzcf
  split
  · exact .inl (refuse_replies ..)
  · split
    · exact .inl (refuse_replies ..)
    · exact acceptWrite_repliesOrWrites ..

theorem orderWscn_repliesOrWrites : Answer.RepliesOrWrites s (orderWscn i o s) := by
  unfold orderWscn
  split
  · exact acceptWrite_repliesOrWrites ..
  · exact .inl (refuse_replies ..)

theorem orderWdcf_repliesOrWrites : Answer.RepliesOrWrites s (orderWdcf i o s) := by
  unfold orderWdcf
  split
  · exact .inl (refuse_replies ..)
  · exact acceptWrite_repliesOrWrites ..

/-- An order that its port may carry replies and keeps the slots, or is a store write accepted at the B-port. -/
theorem runOrder_answers {k : OrderKind} (allowed : portAllowed k i = true) :
    Answer.Replies s (runOrder k i o s) ∨ i = .b ∧ ∃ w, runOrder k i o s = ({ s with write := some w }, none) := by
  cases k with
  | qsys => exact .inl (orderQsys_replies i o s)
  | qalm => exact .inl (orderQalm_replies i o s)
  | qzon => exact .inl (orderQzon_replies i o s)
  | qpnt => exact .inl (orderQpnt_replies i o s)
  | nxch => exact .inl (orderNxch_replies i o s)
  | zalm => exact .inl (orderZalm_replies i o s)
  | arst => exact .inl (orderArst_replies i o s)
  | ziso => exact .inl (orderZiso_replies i o s)
  | zrin => exact .inl (orderZrin_replies i o s)
  | ovrd => exact .inl (orderOvrd_replies i o s)
  | oval => exact .inl (done_replies o (runEvent_slotsKept ..))
  | fzon => exact .inl (orderFzon_replies i o s)
  | eqrs => exact .inl (orderEqrs_replies i o s)
  | ndem => exact .inl (orderNdem_replies i o s)
  | ptst => exact .inl (orderPtst_replies i o s)
  | pthl => exact .inl (ite_event_replies ..)
  | ptrd => exact .inl (orderPtrd_replies i o s)
  | cmen => exact .inl (ite_event_replies ..)
  | cmlv => exact .inl (ite_event_replies ..)
  | wpcf => exact (orderWpcf_repliesOrWrites i o s).imp_right (⟨eq_of_beq allowed, ·⟩)
  | wzcf => exact (orderWzcf_repliesOrWrites i o s).imp_right (⟨eq_of_beq allowed, ·⟩)
  | wscn => exact (orderWscn_repliesOrWrites i o s).imp_right (⟨eq_of_beq allowed, ·⟩)
  | wdcf => exact (orderWdcf_repliesOrWrites i o s).imp_right (⟨eq_of_beq allowed, ·⟩)
  | rpcf => exact .inl (orderRpcf_replies i o s)
  | rzcf => exact .inl (orderRzcf_replies i o s)
  | rscn => exact .inl (orderRscn_replies i o s)
  | rdcf => exact .inl (orderRdcf_replies i o s)

/-- WHAT THE DECODER ANSWERS, as the ports see it: a reply with the slots kept, or no reply, which is a store write
accepted at the B-port. -/
theorem decodeOrder_answers :
    Answer.Replies s (decodeOrder i o s) ∨ i = .b ∧ ∃ w, decodeOrder i o s = ({ s with write := some w }, none) := by
  unfold decodeOrder
  split
  · exact .inl (refuse_replies ..)
  · split
    · rename_i allowed
      exact runOrder_answers i o s allowed
    · exact .inl (refuse_replies ..)

end Orders

end Sys2Proof.Machine
end

section
/-! SUPPORT. The conditions of R138 on a port record, what each event at a port makes of them, and the statement that
every step keeps them, with a store write in progress exactly while the B-port has an order in progress. -/

namespace Sys2Proof.Machine

/-! ## Four slots and their pointer -/

theorem forall_slots {P : Fin 4 → Prop} : (∀ j, P j) ↔ P 0 ∧ P 1 ∧ P 2 ∧ P 3 := by simp [Fin.forall_fin_succ]

theorem frontFull_iff {v : Vector (Option Byte) 4} {n : Fin 5} :
    frontFull v = some n.val ↔ ∀ j : Fin 4, v[j].isSome = decide (j.val < n.val) := by
  rw [forall_slots, frontFull]
  change _ ↔ v[0].isSome = _ ∧ v[1].isSome = _ ∧ v[2].isSome = _ ∧ v[3].isSome = _
  generalize v[0].isSome = a, v[1].isSome = b, v[2].isSome = c, v[3].isSome = d
  revert a b c d n
  decide

theorem frontEmpty_iff {v : Vector (Option Byte) 4} {n : Fin 5} :
    frontEmpty v = some n.val ↔ ∀ j : Fin 4, v[j].isSome = decide (n.val ≤ j.val) := by
  rw [forall_slots, frontEmpty]
  change _ ↔ v[0].isSome = _ ∧ v[1].isSome = _ ∧ v[2].isSome = _ ∧ v[3].isSome = _
  generalize v[0].isSome = a, v[1].isSome = b, v[2].isSome = c, v[3].isSome = d
  revert a b c d n
  decide

/-- The input side of R138: the FULL slots stand in front of the write pointer, or all four are FULL with it at 0. -/
abbrev InputShape (v : Vector (Option Byte) 4) (w : Fin 4) : Prop :=
  ∃ k : Fin 5, frontFull v = some k.val ∧ w.val = k.val % 4

/-- The output side of R138: the slots from the read pointer on are FULL, or all four EMPTY with it at 0. -/
abbrev OutputShape (v : Vector (Option Byte) 4) (w : Fin 4) : Prop :=
  ∃ k : Fin 5, frontEmpty v = some k.val ∧ w.val = k.val % 4

theorem PortRec.shape_iff (r : PortRec) :
    r.Shape ↔ InputShape r.inSlots r.wptr ∧ OutputShape r.outSlots r.rptr := Iff.rfl

theorem slot_set_isSome (v : Vector (Option Byte) 4) (w j : Fin 4) (x : Option Byte) :
    (v.set w x)[j].isSome = if j = w then x.isSome else v[j].isSome := by
  by_cases e : j = w
  · subst e; simp
  · have e' : w.val ≠ j.val := fun x => e (Fin.ext x.symm)
    simp [e, e']

/-- A pointer advances by one, from 3 back to 0. -/
theorem pointer_succ {w : Fin 4} {k : Nat} (h : w.val = k) : (w + 1).val = (k + 1) % 4 := by
  rw [Fin.val_add, h]; rfl

/-- A byte stored at the write pointer keeps the input side in shape. -/
theorem InputShape.store {v : Vector (Option Byte) 4} {w : Fin 4} (h : InputShape v w) (empty : v[w] = none)
    (x : Byte) : InputShape (v.set w (some x)) (w + 1) := by
  obtain ⟨k, full, hw⟩ := h
  rw [frontFull_iff] at full
  have room : w.val = k.val ∧ k.val < 4 := by
    have here := full w
    rw [empty, Option.isSome_none, eq_comm, decide_eq_false_iff_not] at here
    omega
  refine ⟨⟨k + 1, by omega⟩, frontFull_iff.mpr fun j => ?_, pointer_succ room.1⟩
  rw [slot_set_isSome, full j]
  split <;> simp <;> omega

/-- A byte read at the read pointer keeps the output side in shape. -/
theorem OutputShape.read {v : Vector (Option Byte) 4} {w : Fin 4} (h : OutputShape v w) {x : Byte}
    (full : v[w] = some x) : OutputShape (v.set w none) (w + 1) := by
  obtain ⟨k, empty, hw⟩ := h
  rw [frontEmpty_iff] at empty
  have unread : w.val = k.val ∧ k.val < 4 := by
    have here := empty w
    rw [full, Option.isSome_some, eq_comm, decide_eq_true_iff] at here
    omega
  refine ⟨⟨k + 1, by omega⟩, frontEmpty_iff.mpr fun j => ?_, pointer_succ unread.1⟩
  rw [slot_set_isSome, empty j]
  split <;> simp <;> omega

theorem inputShape_empty : InputShape (Vector.replicate 4 none) 0 := ⟨0, rfl, rfl⟩

/-! ## One port record -/

/-- The conditions on one port record (R138, R141). -/
abbrev PortRec.Sound (held : Bool) (r : PortRec) : Prop :=
  r.Shape ∧ (held = false → r.WaitsOnlyBehind) ∧ r.ProgressEmpty

section Records
variable {r : PortRec} (held : Bool)

/-- With no complete order the slots alone matter. -/
theorem PortRec.sound_of_incomplete (shape : r.Shape) (progress : r.ProgressEmpty) (h : r.completeOrder = none) :
    r.Sound held :=
  ⟨shape, fun _ complete => absurd complete (by simp [h]), progress⟩

theorem PortRec.sound_of_busy (shape : r.Shape) (progress : r.ProgressEmpty) (h : r.free = false) : r.Sound held :=
  ⟨shape, fun _ _ => h, progress⟩

/-- A port that takes its order (R141). -/
theorem PortRec.take_sound (o : Order) (shape : r.Shape) (read : r.replyWaiting = false) : (r.take o).Sound held :=
  PortRec.sound_of_incomplete held ⟨inputShape_empty, shape.2⟩ (fun _ => read) rfl

/-- A port whose order completes (R142). -/
theorem PortRec.complete_sound (y : Reply) (shape : r.Shape) : (r.complete y).Sound held :=
  PortRec.sound_of_busy held ⟨shape.1, 0, rfl, rfl⟩ nofun rfl

theorem PortRec.afterReset_sound (ps : Vector Bool 64) : (PortRec.afterReset ps).Sound held :=
  PortRec.sound_of_incomplete held ⟨inputShape_empty, 4, rfl, rfl⟩ nofun rfl

end Records

/-! ## The three ports and the store write -/

/-- The conditions on the three ports and the store write. -/
abbrev State.PortsWell (s : State) : Prop := s.PortsSound ∧ s.WriteSound

section Machine
variable {s t : State} {i : PortId} {r : PortRec}

theorem State.PortsSound.setPort (h : s.PortsSound) (hr : r.Sound s.held) : (s.setPort i r).PortsSound := by
  intro j
  by_cases e : j = i
  · subst e; rw [State.port_setPort_self]; exact hr
  · rw [State.port_setPort_ne _ _ e]; exact h j

/-- Whether a write is in progress, and which orders are, is all that the condition reads. -/
theorem State.WriteSound.congr (h : s.WriteSound) (write : t.write.isSome = s.write.isSome)
    (orders : ∀ j, (t.port j).inProgress = (s.port j).inProgress) : t.WriteSound := by
  obtain ⟨hb, ha, hf⟩ := h
  exact ⟨by rw [write, orders, hb], (orders .a).trans ha, (orders .f).trans hf⟩

theorem State.setPort_inProgress (same : r.inProgress = (s.port i).inProgress) (j : PortId) :
    ((s.setPort i r).port j).inProgress = (s.port j).inProgress := by
  by_cases e : j = i
  · subst e; rw [State.port_setPort_self, same]
  · rw [State.port_setPort_ne _ _ e]

/-- A port record with the same order in progress takes the place of another. -/
theorem State.PortsWell.setPort (h : s.PortsWell) (hr : r.Sound s.held)
    (same : r.inProgress = (s.port i).inProgress) : (s.setPort i r).PortsWell :=
  ⟨h.1.setPort hr, h.2.congr rfl (State.setPort_inProgress same)⟩

/-- What keeps the slots keeps the conditions. -/
theorem State.SlotsKept.portsWell (k : s.SlotsKept t) (h : s.PortsWell) : t.PortsWell := by
  refine ⟨fun j => ?_, h.2.congr k.write fun j => by rw [k.port j]⟩
  rw [k.port j, k.held]
  exact h.1 j

/-! ## Orders taken and completed (R141, R142) -/

/-- An order is taken at a free port: its reply completes it within the event, and an accepted store write leaves it in
progress at the B-port. -/
theorem takeOrder_portsWell (o : Order) (h : s.PortsWell) (shape : r.Shape) (free : r.free = true)
    (same : r.inProgress = (s.port i).inProgress) : (takeOrder i o (s.setPort i r)).PortsWell := by
  obtain ⟨idle, read⟩ := r.free_eq_true.mp free
  have sound : (s.setPort i (r.take o)).PortsSound := h.1.setPort (PortRec.take_sound _ o shape read)
  have answers := decodeOrder_answers i o (s.setPort i (r.take o))
  rw [takeOrder, State.port_setPort_self, State.setPort_setPort]
  rcases hd : decodeOrder i o (s.setPort i (r.take o)) with ⟨t, y⟩
  rw [hd] at answers
  rcases answers with ⟨reply, kept⟩ | ⟨rfl, w, e⟩
  · obtain ⟨y, rfl⟩ := Option.isSome_iff_exists.mp reply
    have tsound : t.PortsSound := fun j => by rw [kept.port j, kept.held]; exact sound j
    refine ⟨tsound.setPort (PortRec.complete_sound _ y (tsound i).1), h.2.congr kept.write fun j => ?_⟩
    by_cases e : j = i
    · subst e; rw [State.port_setPort_self, ← same, idle]; rfl
    · rw [State.port_setPort_ne _ _ e, kept.port j, State.port_setPort_ne _ _ e]
  · obtain ⟨rfl, rfl⟩ := Prod.mk.inj e
    exact ⟨sound, rfl, h.2.2.1, h.2.2.2⟩

/-- A port record in shape takes the place of another, and its order is taken if one is complete and the port free. -/
theorem takeIfReady_portsWell (h : s.PortsWell) (shape : r.Shape) (progress : r.ProgressEmpty)
    (same : r.inProgress = (s.port i).inProgress) : (takeIfReady i (s.setPort i r)).PortsWell := by
  cases complete : r.completeOrder with
  | none =>
    rw [takeIfReady_setPort_of_not_ready (.inl complete)]
    exact h.setPort (PortRec.sound_of_incomplete _ shape progress complete) same
  | some o =>
    cases free : r.free with
    | false =>
      rw [takeIfReady_setPort_of_not_ready (.inr (r.free_eq_false.mp free))]
      exact h.setPort (PortRec.sound_of_busy _ shape progress free) same
    | true =>
      obtain ⟨idle, read⟩ := r.free_eq_true.mp free
      rw [takeIfReady_setPort_of_ready complete idle read]
      exact takeOrder_portsWell o h shape free same

/-! ## Strobes and SEL (R139, R140, R143) -/

theorem writeByte_portsWell (i : PortId) (x : Byte) (h : s.PortsWell) : (writeByte i x s).PortsWell := by
  obtain ⟨shape, -, progress⟩ := h.1 i
  obtain ⟨input, output⟩ := (PortRec.shape_iff _).mp shape
  rw [writeByte_eq]
  split
  · exact h.setPort (h.1 i) rfl
  · rename_i empty
    exact takeIfReady_portsWell h ⟨input.store (by simpa using empty) x, output⟩ progress rfl

theorem readByte_portsWell (i : PortId) (h : s.PortsWell) : (readByte i s).PortsWell := by
  obtain ⟨shape, -, progress⟩ := h.1 i
  obtain ⟨input, output⟩ := (PortRec.shape_iff _).mp shape
  rw [readByte_eq]
  split
  · exact h.setPort (h.1 i) rfl
  · rename_i x full
    have waiting : (s.port i).replyWaiting = true := (PortRec.replyWaiting_iff _).mpr ⟨_, by rw [full]; rfl⟩
    exact takeIfReady_portsWell h ⟨input, output.read full⟩
      (fun busy => absurd (progress busy) (by simp [waiting])) rfl

theorem selReleased_portsWell (i : PortId) (h : s.PortsWell) : (selReleased i s).PortsWell := by
  obtain ⟨⟨-, output⟩, -, progress⟩ := h.1 i
  rw [selReleased]
  split
  · exact h
  · exact h.setPort (PortRec.sound_of_incomplete _ ⟨inputShape_empty, output⟩ progress rfl) rfl

theorem deliverOrder_portsWell (i : PortId) (o : Order) (h : s.PortsWell) : (deliverOrder i o s).PortsWell :=
  writeByte_portsWell i _ (writeByte_portsWell i _ (writeByte_portsWell i _ (writeByte_portsWell i _ h)))

/-! ## The store write and device reset (R142, R149, R168) -/

/-- A store write in progress completes, and with it the order in progress at the B-port. -/
theorem storeWriteDone_portsWell (h : s.PortsWell) : (storeWriteDone s).PortsWell := by
  obtain ⟨ports, write, ha, hf⟩ := h
  unfold storeWriteDone
  split
  · exact ⟨ports, write, ha, hf⟩
  · rename_i w hw
    have marked := completeWrite_portsMarked w.target s
    have order (j : PortId) : ((completeWrite w.target s).port j).inProgress = (s.port j).inProgress :=
      (congrArg PortRec.inProgress (marked j).1).trans rfl
    have sound : (completeWrite w.target s).PortsSound := fun j => by
      rw [(marked j).1, completeWrite_held]; exact ports j
    rw [hw, ← order] at write
    obtain ⟨o, ho⟩ := Option.isSome_iff_exists.mp write.symm
    dsimp only
    rw [show (completeWrite w.target s).ports.b.inProgress = some o from ho]
    refine ⟨sound.setPort (PortRec.complete_sound _ _ (sound .b).1), ?_, (order .a).trans ha, (order .f).trans hf⟩
    rw [State.setPort_write, completeWrite_write]
    rfl

theorem deviceResetEnds_portsWell (s : State) : (deviceResetEnds s).PortsWell := by
  refine ⟨fun i => ?_, ?_, ?_, ?_⟩
  · rw [deviceResetEnds_port]; exact PortRec.afterReset_sound _ _
  · rw [deviceResetEnds_write, deviceResetEnds_port]; rfl
  · rw [deviceResetEnds_port]; rfl
  · rw [deviceResetEnds_port]; rfl

theorem PortRec.noOrder_eq (h : r.inProgress = none) : { r with inProgress := none } = r := by
  cases r; cases h; rfl

/-- A reset that begins abandons the order in progress (R149, R168). -/
theorem deviceResetBegins_port (h : s.WriteSound) (i : PortId) :
    (deviceResetBegins s).port i = { s.port i with inProgress := none } := by
  obtain ⟨write, ha, hf⟩ := h
  show (endWriteByReset s).port i = _
  unfold endWriteByReset
  split
  · rename_i none_written
    have hb : (s.port .b).inProgress = none := by simpa [none_written] using write
    cases i
    · exact (PortRec.noOrder_eq ha).symm
    · exact (PortRec.noOrder_eq hf).symm
    · exact (PortRec.noOrder_eq hb).symm
  · cases i
    · exact (PortRec.noOrder_eq ha).symm
    · exact (PortRec.noOrder_eq hf).symm
    · rfl

/-- A complete order behind the one abandoned may stand until the reset ends (R149). -/
theorem deviceResetBegins_portsWell (h : s.PortsWell) : (deviceResetBegins s).PortsWell := by
  have port := deviceResetBegins_port h.2
  refine ⟨fun i => ?_, ?_, by rw [port], by rw [port]⟩
  · rw [port, deviceResetBegins_held]
    exact ⟨(h.1 i).1, nofun, nofun⟩
  · rw [deviceResetBegins_write, port]; rfl

/-! ## Steps -/

theorem unlessHeld_portsWell {g : State → State} (h : s.PortsWell) (hg : (g s).PortsWell) :
    (s.unlessHeld g).PortsWell := by
  unfold State.unlessHeld
  split
  · exact h
  · exact hg

theorem strobed_portsWell {g : State → State} (sel : Bool) (h : s.PortsWell) (hg : (g s).PortsWell) :
    (s.unlessHeld (strobed sel g)).PortsWell := by
  refine unlessHeld_portsWell h ?_
  cases sel
  · exact h
  · exact hg

theorem runEvent_portsWell (g : Env → Ev → Ev) (h : s.PortsWell) : (s.runEvent g).PortsWell :=
  (runEvent_slotsKept g s).portsWell h

theorem timerEvent_portsWell (g : Env → Ev → Ev) (h : s.PortsWell) : (s.unlessHeld (State.runEvent g)).PortsWell :=
  unlessHeld_portsWell h (runEvent_portsWell g h)

theorem zoneFilterTakes_slotsKept (z : Zone) (l : ZoneLine) (s : State) : s.SlotsKept (zoneFilterTakes z l s) :=
  zonesFollow_slotsKept s
    (.of_ports_eq (activityEvent_ports ..) (activityEvent_held ..) (by rw [activityEvent_write]; rfl))

theorem zoneRawChange_slotsKept (z : Zone) (level : Level) (s : State) : s.SlotsKept (zoneRawChange z level s) := by
  unfold zoneRawChange
  dsimp only
  split
  · exact .refl s
  · split
    · exact .of_ports_eq rfl rfl rfl
    · exact zoneFilterTakes_slotsKept ..

theorem zoneTimerOut_slotsKept (z : Zone) (s : State) : s.SlotsKept (zoneTimerOut z s) := by
  unfold zoneTimerOut
  dsimp only
  split
  · exact zoneFilterTakes_slotsKept ..
  · exact .refl s

theorem feedbackChange_slotsKept (p : Point) (i : LimitInput) (level : Level) (s : State) :
    s.SlotsKept (feedbackChange p i level s) := by
  unfold feedbackChange
  split
  · exact .of_ports_eq rfl rfl rfl
  · exact runEvent_slotsKept ..

theorem edgeChange_slotsKept (p : Point) (s : State) : s.SlotsKept (edgeChange p s) := by
  unfold edgeChange
  split
  · exact .of_ports_eq rfl rfl rfl
  · exact runEvent_slotsKept ..

theorem supfailChange_slotsKept (level : Level) (s : State) : s.SlotsKept (supfailChange level s) := by
  unfold supfailChange
  split
  · exact .of_ports_eq rfl rfl rfl
  · exact runEvent_slotsKept ..

theorem exec_portsWell {c : Instr} (e : exec c s = .next t) (h : s.PortsWell) : t.PortsWell := by
  cases c with
  | deviceReset => exact Host.Outcome.next.inj e ▸ deviceResetEnds_portsWell s
  | deviceResetHeld => exact Host.Outcome.next.inj e ▸ deviceResetBegins_portsWell h
  | zoneRawLevelChange z level => exact Host.Outcome.next.inj e ▸ (zoneRawChange_slotsKept z level s).portsWell h
  | zoneFilterTimerRunsOut z =>
    exact Host.Outcome.next.inj e ▸ unlessHeld_portsWell h ((zoneTimerOut_slotsKept z s).portsWell h)
  | limitRawLevelChange p i level =>
    exact Host.Outcome.next.inj e ▸ (feedbackChange_slotsKept p i level s).portsWell h
  | fbbRawLevelChange p level =>
    exact Host.Outcome.next.inj e ▸ (feedbackChange_slotsKept p .fbb level s).portsWell h
  | fbaRisingEdge p => exact Host.Outcome.next.inj e ▸ (edgeChange_slotsKept p s).portsWell h
  | supfailRawLevelChange level => exact Host.Outcome.next.inj e ▸ (supfailChange_slotsKept level s).portsWell h
  | storeWriteCompletes => exact Host.Outcome.next.inj e ▸ unlessHeld_portsWell h (storeWriteDone_portsWell h)
  | wrStrobeEnd i sel x => exact Host.Outcome.next.inj e ▸ strobed_portsWell sel h (writeByte_portsWell i x h)
  | selInactive i => exact Host.Outcome.next.inj e ▸ unlessHeld_portsWell h (selReleased_portsWell i h)
  | rdStrobe i sel => exact Host.Outcome.next.inj e ▸ strobed_portsWell sel h (readByte_portsWell i h)
  | limitFilterTimerRunsOut | strokeTimerRunsOut | gateTimerRunsOut | proofLimitTimerRunsOut | runDownTimerRunsOut
  | periodBoundary | fbbFilterTimerRunsOut | spacingTimerRunsOut | supfailFilterTimerRunsOut | settleTimerRunsOut
  | joiningReport => exact Host.Outcome.next.inj e ▸ timerEvent_portsWell _ h
  | _ => exact Host.Outcome.next.inj e ▸ unlessHeld_portsWell h (deliverOrder_portsWell _ _ h)

theorem idleStep_slotsKept (s : State) : s.SlotsKept s.idleStep := by
  rcases State.idleStep_cases s with ⟨e, -⟩ | ⟨c, -, -, e⟩ | ⟨-, -, -, e⟩ <;> rw [e]
  · exact .refl s
  · exact .of_ports_eq rfl rfl rfl
  · exact .of_ports_eq s.countPasses_ports s.countPasses_held (by rw [State.countPasses, Option.isSome_map])

end Machine

/-- Settles O47. Every event keeps the slots, or is one at a port, whose record stays sound (`takeIfReady_portsWell`),
or the completion of a store write, or a reset. -/
theorem portsStaySound : Obligations.PortsStaySound := by
  intro s t h e
  unfold step at e
  split at e
  · exact Host.Outcome.next.inj e ▸ (idleStep_slotsKept s).portsWell h
  · exact exec_portsWell e h

end Sys2Proof.Machine
end
